-- ==== Sys2Proof/Word.lean ====
section
/-! DEFINITION. The two word sizes of the machine (spec 00_scope.md R8, R10, R11): a byte and a
16-bit word, both unsigned, bit 0 the least significant. -/

namespace Sys2Proof

/-- A byte: `u8` of R10. -/
abbrev Byte := BitVec 8

/-- A 16-bit word: `u16` of R10; a machine address, PC, SP or a register pair. -/
abbrev Word := BitVec 16

end Sys2Proof
end

