-- ==== Sys2Proof/Syntax.lean ====
section
/-! DEFINITION. The instructions as syntax: one constructor per row of spec/opcode_table.json, and the
operand names their families share (spec 10_state.md R32, R34, R45, 30_encoding.md R112). -/

namespace Sys2Proof

/-- The seven data registers (R30). -/
inductive Reg8 where
  | b | c | d | e | h | l | a
  deriving DecidableEq, Repr

/-- An 8-bit operand (R32): a register, or M, the memory byte at HL. -/
inductive Operand8 where
  | reg (r : Reg8)
  | m
  deriving DecidableEq, Repr

/-- A 16-bit operand of LXI, DAD, INX and DCX (R34); the stack forms use the first three. -/
inductive RegPair where
  | bc | de | hl | sp
  deriving DecidableEq, Repr

/-- A condition (R45). -/
inductive Cond where
  | nz | z | nc | c | po | pe | p | m
  deriving DecidableEq, Repr

/-- An 8-bit ALU operation (R112, field AAA). -/
inductive AluOp where
  | add | adc | sub | sbb | ana | xra | ora | cmp
  deriving DecidableEq, Repr

/-- The 256 instructions, one per opcode byte (R117). `v` is the immediate byte d8 (R113), `w` the
16-bit operand a16 (R114). Data transfer stands last because Lean's runtime numbers at most 244
constructors that carry an operand. -/
inductive Instr where
  -- Arithmetic (41_arithmetic.md)
  | inxB
  | inrB
  | dcrB
  | dadB
  | dcxB
  | inrC
  | dcrC
  | inxD
  | inrD
  | dcrD
  | dadD
  | dcxD
  | inrE
  | dcrE
  | inxH
  | inrH
  | dcrH
  | daa
  | dadH
  | dcxH
  | inrL
  | dcrL
  | inxSP
  | inrM
  | dcrM
  | dadSP
  | dcxSP
  | inrA
  | dcrA
  | addB
  | addC
  | addD
  | addE
  | addH
  | addL
  | addM
  | addA
  | adcB
  | adcC
  | adcD
  | adcE
  | adcH
  | adcL
  | adcM
  | adcA
  | subB
  | subC
  | subD
  | subE
  | subH
  | subL
  | subM
  | subA
  | sbbB
  | sbbC
  | sbbD
  | sbbE
  | sbbH
  | sbbL
  | sbbM
  | sbbA
  | adi (v : Byte)
  | aci (v : Byte)
  | sui (v : Byte)
  | sbi (v : Byte)
  -- Logical, compare, rotate and flag (42_logical.md)
  | rlc
  | rrc
  | ral
  | rar
  | cma
  | stc
  | cmc
  | anaB
  | anaC
  | anaD
  | anaE
  | anaH
  | anaL
  | anaM
  | anaA
  | xraB
  | xraC
  | xraD
  | xraE
  | xraH
  | xraL
  | xraM
  | xraA
  | oraB
  | oraC
  | oraD
  | oraE
  | oraH
  | oraL
  | oraM
  | oraA
  | cmpB
  | cmpC
  | cmpD
  | cmpE
  | cmpH
  | cmpL
  | cmpM
  | cmpA
  | ani (v : Byte)
  | xri (v : Byte)
  | ori (v : Byte)
  | cpi (v : Byte)
  -- Branch, call, return and restart (43_branch.md)
  | rnz
  | jnz (w : Word)
  | jmp (w : Word)
  | cnz (w : Word)
  | rst0
  | rz
  | ret
  | jz (w : Word)
  | cz (w : Word)
  | call (w : Word)
  | rst1
  | rnc
  | jnc (w : Word)
  | cnc (w : Word)
  | rst2
  | rc
  | jc (w : Word)
  | cc (w : Word)
  | rst3
  | rpo
  | jpo (w : Word)
  | cpo (w : Word)
  | rst4
  | rpe
  | pchl
  | jpe (w : Word)
  | cpe (w : Word)
  | rst5
  | rp
  | jp (w : Word)
  | cp (w : Word)
  | rst6
  | rm
  | jm (w : Word)
  | cm (w : Word)
  | rst7
  -- Stack, I/O and machine control (44_stack_io_machine.md)
  | nop
  | hlt
  | popB
  | pushB
  | popD
  | outPort (v : Byte)
  | pushD
  | inPort (v : Byte)
  | popH
  | xthl
  | pushH
  | popPSW
  | di
  | pushPSW
  | sphl
  | ei
  -- The twelve undocumented opcodes (44_stack_io_machine.md R293)
  | undoc08
  | undoc10
  | undoc18
  | undoc20
  | undoc28
  | undoc30
  | undoc38
  | undocCB (w : Word)
  | undocD9
  | undocDD (w : Word)
  | undocED (w : Word)
  | undocFD (w : Word)
  -- Data transfer (40_data_transfer.md)
  | lxiB (w : Word)
  | staxB
  | mviB (v : Byte)
  | ldaxB
  | mviC (v : Byte)
  | lxiD (w : Word)
  | staxD
  | mviD (v : Byte)
  | ldaxD
  | mviE (v : Byte)
  | lxiH (w : Word)
  | shld (w : Word)
  | mviH (v : Byte)
  | lhld (w : Word)
  | mviL (v : Byte)
  | lxiSP (w : Word)
  | sta (w : Word)
  | mviM (v : Byte)
  | lda (w : Word)
  | mviA (v : Byte)
  | movBB
  | movBC
  | movBD
  | movBE
  | movBH
  | movBL
  | movBM
  | movBA
  | movCB
  | movCC
  | movCD
  | movCE
  | movCH
  | movCL
  | movCM
  | movCA
  | movDB
  | movDC
  | movDD
  | movDE
  | movDH
  | movDL
  | movDM
  | movDA
  | movEB
  | movEC
  | movED
  | movEE
  | movEH
  | movEL
  | movEM
  | movEA
  | movHB
  | movHC
  | movHD
  | movHE
  | movHH
  | movHL
  | movHM
  | movHA
  | movLB
  | movLC
  | movLD
  | movLE
  | movLH
  | movLL
  | movLM
  | movLA
  | movMB
  | movMC
  | movMD
  | movME
  | movMH
  | movML
  | movMA
  | movAB
  | movAC
  | movAD
  | movAE
  | movAH
  | movAL
  | movAM
  | movAA
  | xchg
  deriving DecidableEq, Repr

/-! The constructors by operand, so that a statement can name a whole form at once. -/

/-- MOV r1,r2 (R140). -/
def Instr.movReg : Reg8 → Reg8 → Instr
  | .b, .b => .movBB
  | .b, .c => .movBC
  | .b, .d => .movBD
  | .b, .e => .movBE
  | .b, .h => .movBH
  | .b, .l => .movBL
  | .b, .a => .movBA
  | .c, .b => .movCB
  | .c, .c => .movCC
  | .c, .d => .movCD
  | .c, .e => .movCE
  | .c, .h => .movCH
  | .c, .l => .movCL
  | .c, .a => .movCA
  | .d, .b => .movDB
  | .d, .c => .movDC
  | .d, .d => .movDD
  | .d, .e => .movDE
  | .d, .h => .movDH
  | .d, .l => .movDL
  | .d, .a => .movDA
  | .e, .b => .movEB
  | .e, .c => .movEC
  | .e, .d => .movED
  | .e, .e => .movEE
  | .e, .h => .movEH
  | .e, .l => .movEL
  | .e, .a => .movEA
  | .h, .b => .movHB
  | .h, .c => .movHC
  | .h, .d => .movHD
  | .h, .e => .movHE
  | .h, .h => .movHH
  | .h, .l => .movHL
  | .h, .a => .movHA
  | .l, .b => .movLB
  | .l, .c => .movLC
  | .l, .d => .movLD
  | .l, .e => .movLE
  | .l, .h => .movLH
  | .l, .l => .movLL
  | .l, .a => .movLA
  | .a, .b => .movAB
  | .a, .c => .movAC
  | .a, .d => .movAD
  | .a, .e => .movAE
  | .a, .h => .movAH
  | .a, .l => .movAL
  | .a, .a => .movAA

/-- MOV r,M (R141). -/
def Instr.movFromM : Reg8 → Instr
  | .b => .movBM
  | .c => .movCM
  | .d => .movDM
  | .e => .movEM
  | .h => .movHM
  | .l => .movLM
  | .a => .movAM

/-- MOV M,r (R142). -/
def Instr.movToM : Reg8 → Instr
  | .b => .movMB
  | .c => .movMC
  | .d => .movMD
  | .e => .movME
  | .h => .movMH
  | .l => .movML
  | .a => .movMA

/-- MVI r,d8 (R143). -/
def Instr.mviReg : Reg8 → Byte → Instr
  | .b, v => .mviB v
  | .c, v => .mviC v
  | .d, v => .mviD v
  | .e, v => .mviE v
  | .h, v => .mviH v
  | .l, v => .mviL v
  | .a, v => .mviA v

/-- LXI rp,a16 (R145). -/
def Instr.lxi : RegPair → Word → Instr
  | .bc, w => .lxiB w
  | .de, w => .lxiD w
  | .hl, w => .lxiH w
  | .sp, w => .lxiSP w

/-- INX rp (R188). -/
def Instr.inx : RegPair → Instr
  | .bc => .inxB
  | .de => .inxD
  | .hl => .inxH
  | .sp => .inxSP

/-- DCX rp (R189). -/
def Instr.dcx : RegPair → Instr
  | .bc => .dcxB
  | .de => .dcxD
  | .hl => .dcxH
  | .sp => .dcxSP

/-- DAD rp (R190). -/
def Instr.dad : RegPair → Instr
  | .bc => .dadB
  | .de => .dadD
  | .hl => .dadH
  | .sp => .dadSP

/-- The register forms of the eight ALU operations (R172 to R183, R211 to R220). -/
def Instr.aluReg : AluOp → Reg8 → Instr
  | .add, .b => .addB
  | .add, .c => .addC
  | .add, .d => .addD
  | .add, .e => .addE
  | .add, .h => .addH
  | .add, .l => .addL
  | .add, .a => .addA
  | .adc, .b => .adcB
  | .adc, .c => .adcC
  | .adc, .d => .adcD
  | .adc, .e => .adcE
  | .adc, .h => .adcH
  | .adc, .l => .adcL
  | .adc, .a => .adcA
  | .sub, .b => .subB
  | .sub, .c => .subC
  | .sub, .d => .subD
  | .sub, .e => .subE
  | .sub, .h => .subH
  | .sub, .l => .subL
  | .sub, .a => .subA
  | .sbb, .b => .sbbB
  | .sbb, .c => .sbbC
  | .sbb, .d => .sbbD
  | .sbb, .e => .sbbE
  | .sbb, .h => .sbbH
  | .sbb, .l => .sbbL
  | .sbb, .a => .sbbA
  | .ana, .b => .anaB
  | .ana, .c => .anaC
  | .ana, .d => .anaD
  | .ana, .e => .anaE
  | .ana, .h => .anaH
  | .ana, .l => .anaL
  | .ana, .a => .anaA
  | .xra, .b => .xraB
  | .xra, .c => .xraC
  | .xra, .d => .xraD
  | .xra, .e => .xraE
  | .xra, .h => .xraH
  | .xra, .l => .xraL
  | .xra, .a => .xraA
  | .ora, .b => .oraB
  | .ora, .c => .oraC
  | .ora, .d => .oraD
  | .ora, .e => .oraE
  | .ora, .h => .oraH
  | .ora, .l => .oraL
  | .ora, .a => .oraA
  | .cmp, .b => .cmpB
  | .cmp, .c => .cmpC
  | .cmp, .d => .cmpD
  | .cmp, .e => .cmpE
  | .cmp, .h => .cmpH
  | .cmp, .l => .cmpL
  | .cmp, .a => .cmpA

/-- The memory forms of the eight ALU operations. -/
def Instr.aluM : AluOp → Instr
  | .add => .addM
  | .adc => .adcM
  | .sub => .subM
  | .sbb => .sbbM
  | .ana => .anaM
  | .xra => .xraM
  | .ora => .oraM
  | .cmp => .cmpM

/-- The immediate forms of the eight ALU operations. -/
def Instr.aluImm : AluOp → Byte → Instr
  | .add, v => .adi v
  | .adc, v => .aci v
  | .sub, v => .sui v
  | .sbb, v => .sbi v
  | .ana, v => .ani v
  | .xra, v => .xri v
  | .ora, v => .ori v
  | .cmp, v => .cpi v

/-- INR r (R184). -/
def Instr.inr : Reg8 → Instr
  | .b => .inrB
  | .c => .inrC
  | .d => .inrD
  | .e => .inrE
  | .h => .inrH
  | .l => .inrL
  | .a => .inrA

/-- DCR r (R186). -/
def Instr.dcr : Reg8 → Instr
  | .b => .dcrB
  | .c => .dcrC
  | .d => .dcrD
  | .e => .dcrE
  | .h => .dcrH
  | .l => .dcrL
  | .a => .dcrA

/-- Jcc a16 (R251). -/
def Instr.jumpIf : Cond → Word → Instr
  | .nz, w => .jnz w
  | .z, w => .jz w
  | .nc, w => .jnc w
  | .c, w => .jc w
  | .po, w => .jpo w
  | .pe, w => .jpe w
  | .p, w => .jp w
  | .m, w => .jm w

/-- Ccc a16 (R253). -/
def Instr.callIf : Cond → Word → Instr
  | .nz, w => .cnz w
  | .z, w => .cz w
  | .nc, w => .cnc w
  | .c, w => .cc w
  | .po, w => .cpo w
  | .pe, w => .cpe w
  | .p, w => .cp w
  | .m, w => .cm w

/-- Rcc (R255). -/
def Instr.returnIf : Cond → Instr
  | .nz => .rnz
  | .z => .rz
  | .nc => .rnc
  | .c => .rc
  | .po => .rpo
  | .pe => .rpe
  | .p => .rp
  | .m => .rm

/-- RST n (R256). -/
def Instr.rst : Fin 8 → Instr
  | 0 => .rst0
  | 1 => .rst1
  | 2 => .rst2
  | 3 => .rst3
  | 4 => .rst4
  | 5 => .rst5
  | 6 => .rst6
  | 7 => .rst7

end Sys2Proof
end

