-- ==== Sys2Proof/Decode.lean ====
section
/-! DEFINITION. The decoder and the encoder (spec 30_encoding.md). The decoder is the opcode map of R117
laid out as the spec lays it out; the encoder is written apart from it, from the opcode of each
instruction's own rule. -/

namespace Sys2Proof

/-- Bits 7:0 of a word (R11). -/
def lowByte (w : Word) : Byte := w.setWidth 8

/-- Bits 15:8 of a word (R11). -/
def highByte (w : Word) : Byte := (w >>> 8).setWidth 8

/-- The word `hi : lo` (R11). -/
def joinBytes (hi lo : Byte) : Word := hi ++ lo

/-- An instruction descriptor (R111): the format fixes the size, and what the operand bytes become. -/
inductive OpcodeRow where
  /-- Format F1: the opcode alone. -/
  | f1 (i : Instr)
  /-- Format F2: one operand byte d8. -/
  | f2 (make : Byte → Instr)
  /-- Format F3: a little-endian operand word a16. -/
  | f3 (make : Word → Instr)

/-- The declared size in bytes (R110, R111). -/
def OpcodeRow.size : OpcodeRow → Nat
  | .f1 _ => 1
  | .f2 _ => 2
  | .f3 _ => 3

/-- Opcodes 0x0x (R117). -/
def opcodes0X : List OpcodeRow :=
  [
    .f1 .nop, .f3 .lxiB, .f1 .staxB, .f1 .inxB,
    .f1 .inrB, .f1 .dcrB, .f2 .mviB, .f1 .rlc,
    .f1 .undoc08, .f1 .dadB, .f1 .ldaxB, .f1 .dcxB,
    .f1 .inrC, .f1 .dcrC, .f2 .mviC, .f1 .rrc ]

/-- Opcodes 0x1x (R117). -/
def opcodes1X : List OpcodeRow :=
  [
    .f1 .undoc10, .f3 .lxiD, .f1 .staxD, .f1 .inxD,
    .f1 .inrD, .f1 .dcrD, .f2 .mviD, .f1 .ral,
    .f1 .undoc18, .f1 .dadD, .f1 .ldaxD, .f1 .dcxD,
    .f1 .inrE, .f1 .dcrE, .f2 .mviE, .f1 .rar ]

/-- Opcodes 0x2x (R117). -/
def opcodes2X : List OpcodeRow :=
  [
    .f1 .undoc20, .f3 .lxiH, .f3 .shld, .f1 .inxH,
    .f1 .inrH, .f1 .dcrH, .f2 .mviH, .f1 .daa,
    .f1 .undoc28, .f1 .dadH, .f3 .lhld, .f1 .dcxH,
    .f1 .inrL, .f1 .dcrL, .f2 .mviL, .f1 .cma ]

/-- Opcodes 0x3x (R117). -/
def opcodes3X : List OpcodeRow :=
  [
    .f1 .undoc30, .f3 .lxiSP, .f3 .sta, .f1 .inxSP,
    .f1 .inrM, .f1 .dcrM, .f2 .mviM, .f1 .stc,
    .f1 .undoc38, .f1 .dadSP, .f3 .lda, .f1 .dcxSP,
    .f1 .inrA, .f1 .dcrA, .f2 .mviA, .f1 .cmc ]

/-- Opcodes 0x4x (R117). -/
def opcodes4X : List OpcodeRow :=
  [
    .f1 .movBB, .f1 .movBC, .f1 .movBD, .f1 .movBE,
    .f1 .movBH, .f1 .movBL, .f1 .movBM, .f1 .movBA,
    .f1 .movCB, .f1 .movCC, .f1 .movCD, .f1 .movCE,
    .f1 .movCH, .f1 .movCL, .f1 .movCM, .f1 .movCA ]

/-- Opcodes 0x5x (R117). -/
def opcodes5X : List OpcodeRow :=
  [
    .f1 .movDB, .f1 .movDC, .f1 .movDD, .f1 .movDE,
    .f1 .movDH, .f1 .movDL, .f1 .movDM, .f1 .movDA,
    .f1 .movEB, .f1 .movEC, .f1 .movED, .f1 .movEE,
    .f1 .movEH, .f1 .movEL, .f1 .movEM, .f1 .movEA ]

/-- Opcodes 0x6x (R117). -/
def opcodes6X : List OpcodeRow :=
  [
    .f1 .movHB, .f1 .movHC, .f1 .movHD, .f1 .movHE,
    .f1 .movHH, .f1 .movHL, .f1 .movHM, .f1 .movHA,
    .f1 .movLB, .f1 .movLC, .f1 .movLD, .f1 .movLE,
    .f1 .movLH, .f1 .movLL, .f1 .movLM, .f1 .movLA ]

/-- Opcodes 0x7x (R117). -/
def opcodes7X : List OpcodeRow :=
  [
    .f1 .movMB, .f1 .movMC, .f1 .movMD, .f1 .movME,
    .f1 .movMH, .f1 .movML, .f1 .hlt, .f1 .movMA,
    .f1 .movAB, .f1 .movAC, .f1 .movAD, .f1 .movAE,
    .f1 .movAH, .f1 .movAL, .f1 .movAM, .f1 .movAA ]

/-- Opcodes 0x8x (R117). -/
def opcodes8X : List OpcodeRow :=
  [
    .f1 .addB, .f1 .addC, .f1 .addD, .f1 .addE,
    .f1 .addH, .f1 .addL, .f1 .addM, .f1 .addA,
    .f1 .adcB, .f1 .adcC, .f1 .adcD, .f1 .adcE,
    .f1 .adcH, .f1 .adcL, .f1 .adcM, .f1 .adcA ]

/-- Opcodes 0x9x (R117). -/
def opcodes9X : List OpcodeRow :=
  [
    .f1 .subB, .f1 .subC, .f1 .subD, .f1 .subE,
    .f1 .subH, .f1 .subL, .f1 .subM, .f1 .subA,
    .f1 .sbbB, .f1 .sbbC, .f1 .sbbD, .f1 .sbbE,
    .f1 .sbbH, .f1 .sbbL, .f1 .sbbM, .f1 .sbbA ]

/-- Opcodes 0xAx (R117). -/
def opcodesAX : List OpcodeRow :=
  [
    .f1 .anaB, .f1 .anaC, .f1 .anaD, .f1 .anaE,
    .f1 .anaH, .f1 .anaL, .f1 .anaM, .f1 .anaA,
    .f1 .xraB, .f1 .xraC, .f1 .xraD, .f1 .xraE,
    .f1 .xraH, .f1 .xraL, .f1 .xraM, .f1 .xraA ]

/-- Opcodes 0xBx (R117). -/
def opcodesBX : List OpcodeRow :=
  [
    .f1 .oraB, .f1 .oraC, .f1 .oraD, .f1 .oraE,
    .f1 .oraH, .f1 .oraL, .f1 .oraM, .f1 .oraA,
    .f1 .cmpB, .f1 .cmpC, .f1 .cmpD, .f1 .cmpE,
    .f1 .cmpH, .f1 .cmpL, .f1 .cmpM, .f1 .cmpA ]

/-- Opcodes 0xCx (R117). -/
def opcodesCX : List OpcodeRow :=
  [
    .f1 .rnz, .f1 .popB, .f3 .jnz, .f3 .jmp,
    .f3 .cnz, .f1 .pushB, .f2 .adi, .f1 .rst0,
    .f1 .rz, .f1 .ret, .f3 .jz, .f3 .undocCB,
    .f3 .cz, .f3 .call, .f2 .aci, .f1 .rst1 ]

/-- Opcodes 0xDx (R117). -/
def opcodesDX : List OpcodeRow :=
  [
    .f1 .rnc, .f1 .popD, .f3 .jnc, .f2 .outPort,
    .f3 .cnc, .f1 .pushD, .f2 .sui, .f1 .rst2,
    .f1 .rc, .f1 .undocD9, .f3 .jc, .f2 .inPort,
    .f3 .cc, .f3 .undocDD, .f2 .sbi, .f1 .rst3 ]

/-- Opcodes 0xEx (R117). -/
def opcodesEX : List OpcodeRow :=
  [
    .f1 .rpo, .f1 .popH, .f3 .jpo, .f1 .xthl,
    .f3 .cpo, .f1 .pushH, .f2 .ani, .f1 .rst4,
    .f1 .rpe, .f1 .pchl, .f3 .jpe, .f1 .xchg,
    .f3 .cpe, .f3 .undocED, .f2 .xri, .f1 .rst5 ]

/-- Opcodes 0xFx (R117). -/
def opcodesFX : List OpcodeRow :=
  [
    .f1 .rp, .f1 .popPSW, .f3 .jp, .f1 .di,
    .f3 .cp, .f1 .pushPSW, .f2 .ori, .f1 .rst6,
    .f1 .rm, .f1 .sphl, .f3 .jm, .f1 .ei,
    .f3 .cm, .f3 .undocFD, .f2 .cpi, .f1 .rst7 ]

/-- The opcode map of R117, by the high and then the low half of the opcode byte. -/
def opcodeGrid : List (List OpcodeRow) :=
  [opcodes0X, opcodes1X, opcodes2X, opcodes3X, opcodes4X, opcodes5X, opcodes6X, opcodes7X,
   opcodes8X, opcodes9X, opcodesAX, opcodesBX, opcodesCX, opcodesDX, opcodesEX, opcodesFX ]

/-- The one row of an opcode byte (R124); both indexes are below 16, so neither default is reached. -/
def rowOf (op : Byte) : OpcodeRow :=
  (opcodeGrid.getD (op.toNat / 16) []).getD (op.toNat % 16) (.f1 .nop)

/-- Why a list of bytes is no instruction. No byte value is refused (R124). -/
inductive DecodeError where
  /-- There is no opcode byte. -/
  | noOpcode
  /-- The opcode's operand bytes are not all there. -/
  | operandMissing (op : Byte)
  deriving DecidableEq, Repr

/-- The instruction at the head of a list of bytes, and the bytes after it (R110 to R124). -/
def decode : List Byte → Except DecodeError (Instr × List Byte)
  | [] => .error .noOpcode
  | op :: rest =>
    match rowOf op, rest with
    | .f1 i, rest => .ok (i, rest)
    | .f2 make, v :: rest => .ok (make v, rest)
    | .f3 make, lo :: hi :: rest => .ok (make (joinBytes hi lo), rest)
    | .f2 _, [] => .error (.operandMissing op)
    | .f3 _, _ => .error (.operandMissing op)

/-- The bytes of an instruction in address order: the opcode its rule gives it, then its operand, a word
low byte first (R111, R114). -/
def encode : Instr → List Byte
  | .nop => [0x00]
  | .lxiB w => [0x01, lowByte w, highByte w]
  | .staxB => [0x02]
  | .inxB => [0x03]
  | .inrB => [0x04]
  | .dcrB => [0x05]
  | .mviB v => [0x06, v]
  | .rlc => [0x07]
  | .undoc08 => [0x08]
  | .dadB => [0x09]
  | .ldaxB => [0x0A]
  | .dcxB => [0x0B]
  | .inrC => [0x0C]
  | .dcrC => [0x0D]
  | .mviC v => [0x0E, v]
  | .rrc => [0x0F]
  | .undoc10 => [0x10]
  | .lxiD w => [0x11, lowByte w, highByte w]
  | .staxD => [0x12]
  | .inxD => [0x13]
  | .inrD => [0x14]
  | .dcrD => [0x15]
  | .mviD v => [0x16, v]
  | .ral => [0x17]
  | .undoc18 => [0x18]
  | .dadD => [0x19]
  | .ldaxD => [0x1A]
  | .dcxD => [0x1B]
  | .inrE => [0x1C]
  | .dcrE => [0x1D]
  | .mviE v => [0x1E, v]
  | .rar => [0x1F]
  | .undoc20 => [0x20]
  | .lxiH w => [0x21, lowByte w, highByte w]
  | .shld w => [0x22, lowByte w, highByte w]
  | .inxH => [0x23]
  | .inrH => [0x24]
  | .dcrH => [0x25]
  | .mviH v => [0x26, v]
  | .daa => [0x27]
  | .undoc28 => [0x28]
  | .dadH => [0x29]
  | .lhld w => [0x2A, lowByte w, highByte w]
  | .dcxH => [0x2B]
  | .inrL => [0x2C]
  | .dcrL => [0x2D]
  | .mviL v => [0x2E, v]
  | .cma => [0x2F]
  | .undoc30 => [0x30]
  | .lxiSP w => [0x31, lowByte w, highByte w]
  | .sta w => [0x32, lowByte w, highByte w]
  | .inxSP => [0x33]
  | .inrM => [0x34]
  | .dcrM => [0x35]
  | .mviM v => [0x36, v]
  | .stc => [0x37]
  | .undoc38 => [0x38]
  | .dadSP => [0x39]
  | .lda w => [0x3A, lowByte w, highByte w]
  | .dcxSP => [0x3B]
  | .inrA => [0x3C]
  | .dcrA => [0x3D]
  | .mviA v => [0x3E, v]
  | .cmc => [0x3F]
  | .movBB => [0x40]
  | .movBC => [0x41]
  | .movBD => [0x42]
  | .movBE => [0x43]
  | .movBH => [0x44]
  | .movBL => [0x45]
  | .movBM => [0x46]
  | .movBA => [0x47]
  | .movCB => [0x48]
  | .movCC => [0x49]
  | .movCD => [0x4A]
  | .movCE => [0x4B]
  | .movCH => [0x4C]
  | .movCL => [0x4D]
  | .movCM => [0x4E]
  | .movCA => [0x4F]
  | .movDB => [0x50]
  | .movDC => [0x51]
  | .movDD => [0x52]
  | .movDE => [0x53]
  | .movDH => [0x54]
  | .movDL => [0x55]
  | .movDM => [0x56]
  | .movDA => [0x57]
  | .movEB => [0x58]
  | .movEC => [0x59]
  | .movED => [0x5A]
  | .movEE => [0x5B]
  | .movEH => [0x5C]
  | .movEL => [0x5D]
  | .movEM => [0x5E]
  | .movEA => [0x5F]
  | .movHB => [0x60]
  | .movHC => [0x61]
  | .movHD => [0x62]
  | .movHE => [0x63]
  | .movHH => [0x64]
  | .movHL => [0x65]
  | .movHM => [0x66]
  | .movHA => [0x67]
  | .movLB => [0x68]
  | .movLC => [0x69]
  | .movLD => [0x6A]
  | .movLE => [0x6B]
  | .movLH => [0x6C]
  | .movLL => [0x6D]
  | .movLM => [0x6E]
  | .movLA => [0x6F]
  | .movMB => [0x70]
  | .movMC => [0x71]
  | .movMD => [0x72]
  | .movME => [0x73]
  | .movMH => [0x74]
  | .movML => [0x75]
  | .hlt => [0x76]
  | .movMA => [0x77]
  | .movAB => [0x78]
  | .movAC => [0x79]
  | .movAD => [0x7A]
  | .movAE => [0x7B]
  | .movAH => [0x7C]
  | .movAL => [0x7D]
  | .movAM => [0x7E]
  | .movAA => [0x7F]
  | .addB => [0x80]
  | .addC => [0x81]
  | .addD => [0x82]
  | .addE => [0x83]
  | .addH => [0x84]
  | .addL => [0x85]
  | .addM => [0x86]
  | .addA => [0x87]
  | .adcB => [0x88]
  | .adcC => [0x89]
  | .adcD => [0x8A]
  | .adcE => [0x8B]
  | .adcH => [0x8C]
  | .adcL => [0x8D]
  | .adcM => [0x8E]
  | .adcA => [0x8F]
  | .subB => [0x90]
  | .subC => [0x91]
  | .subD => [0x92]
  | .subE => [0x93]
  | .subH => [0x94]
  | .subL => [0x95]
  | .subM => [0x96]
  | .subA => [0x97]
  | .sbbB => [0x98]
  | .sbbC => [0x99]
  | .sbbD => [0x9A]
  | .sbbE => [0x9B]
  | .sbbH => [0x9C]
  | .sbbL => [0x9D]
  | .sbbM => [0x9E]
  | .sbbA => [0x9F]
  | .anaB => [0xA0]
  | .anaC => [0xA1]
  | .anaD => [0xA2]
  | .anaE => [0xA3]
  | .anaH => [0xA4]
  | .anaL => [0xA5]
  | .anaM => [0xA6]
  | .anaA => [0xA7]
  | .xraB => [0xA8]
  | .xraC => [0xA9]
  | .xraD => [0xAA]
  | .xraE => [0xAB]
  | .xraH => [0xAC]
  | .xraL => [0xAD]
  | .xraM => [0xAE]
  | .xraA => [0xAF]
  | .oraB => [0xB0]
  | .oraC => [0xB1]
  | .oraD => [0xB2]
  | .oraE => [0xB3]
  | .oraH => [0xB4]
  | .oraL => [0xB5]
  | .oraM => [0xB6]
  | .oraA => [0xB7]
  | .cmpB => [0xB8]
  | .cmpC => [0xB9]
  | .cmpD => [0xBA]
  | .cmpE => [0xBB]
  | .cmpH => [0xBC]
  | .cmpL => [0xBD]
  | .cmpM => [0xBE]
  | .cmpA => [0xBF]
  | .rnz => [0xC0]
  | .popB => [0xC1]
  | .jnz w => [0xC2, lowByte w, highByte w]
  | .jmp w => [0xC3, lowByte w, highByte w]
  | .cnz w => [0xC4, lowByte w, highByte w]
  | .pushB => [0xC5]
  | .adi v => [0xC6, v]
  | .rst0 => [0xC7]
  | .rz => [0xC8]
  | .ret => [0xC9]
  | .jz w => [0xCA, lowByte w, highByte w]
  | .undocCB w => [0xCB, lowByte w, highByte w]
  | .cz w => [0xCC, lowByte w, highByte w]
  | .call w => [0xCD, lowByte w, highByte w]
  | .aci v => [0xCE, v]
  | .rst1 => [0xCF]
  | .rnc => [0xD0]
  | .popD => [0xD1]
  | .jnc w => [0xD2, lowByte w, highByte w]
  | .outPort v => [0xD3, v]
  | .cnc w => [0xD4, lowByte w, highByte w]
  | .pushD => [0xD5]
  | .sui v => [0xD6, v]
  | .rst2 => [0xD7]
  | .rc => [0xD8]
  | .undocD9 => [0xD9]
  | .jc w => [0xDA, lowByte w, highByte w]
  | .inPort v => [0xDB, v]
  | .cc w => [0xDC, lowByte w, highByte w]
  | .undocDD w => [0xDD, lowByte w, highByte w]
  | .sbi v => [0xDE, v]
  | .rst3 => [0xDF]
  | .rpo => [0xE0]
  | .popH => [0xE1]
  | .jpo w => [0xE2, lowByte w, highByte w]
  | .xthl => [0xE3]
  | .cpo w => [0xE4, lowByte w, highByte w]
  | .pushH => [0xE5]
  | .ani v => [0xE6, v]
  | .rst4 => [0xE7]
  | .rpe => [0xE8]
  | .pchl => [0xE9]
  | .jpe w => [0xEA, lowByte w, highByte w]
  | .xchg => [0xEB]
  | .cpe w => [0xEC, lowByte w, highByte w]
  | .undocED w => [0xED, lowByte w, highByte w]
  | .xri v => [0xEE, v]
  | .rst5 => [0xEF]
  | .rp => [0xF0]
  | .popPSW => [0xF1]
  | .jp w => [0xF2, lowByte w, highByte w]
  | .di => [0xF3]
  | .cp w => [0xF4, lowByte w, highByte w]
  | .pushPSW => [0xF5]
  | .ori v => [0xF6, v]
  | .rst6 => [0xF7]
  | .rm => [0xF8]
  | .sphl => [0xF9]
  | .jm w => [0xFA, lowByte w, highByte w]
  | .ei => [0xFB]
  | .cm w => [0xFC, lowByte w, highByte w]
  | .undocFD w => [0xFD, lowByte w, highByte w]
  | .cpi v => [0xFE, v]
  | .rst7 => [0xFF]

/-- The opcode byte of an instruction. -/
def Instr.opcode (i : Instr) : Byte := (encode i).headD 0

/-- The size of an instruction in bytes (R110). -/
def Instr.size (i : Instr) : Nat := (encode i).length

/-- The bytes of a number of `nbits` bits as the opcode table numbers them (bit 0 the least significant
bit of the first byte), then operand bytes of 0, up to the longest instruction's three. -/
def tableBytes (nbits w : Nat) : List Byte :=
  let masked := w % 2 ^ nbits
  [ BitVec.ofNat 8 masked, BitVec.ofNat 8 (masked / 0x100), BitVec.ofNat 8 (masked / 0x10000) ]

/-- What the decoder reads from an instruction whose bits are `w`, numbered as the opcode table does. -/
def decodeTableWord (nbits w : Nat) : Option Instr :=
  match decode (tableBytes nbits w) with
  | .ok (i, _) => some i
  | .error _ => none

end Sys2Proof
end

