-- ==== Sys2Proof/Config.lean ====
section
/-! DEFINITION. The named parameters of the model (spec 00_scope.md R9) and its one free value.
A `Config` is plain data; the machine's state carries one and no step changes it
(DESIGN CHOICE, safe: notes/assumptions/1.md). The default of each parameter is in
`Machine.defaultConfig`. -/

namespace Sys2Proof

/-- What a chunk holds (R74). -/
inductive ChunkKind where
  | rom
  | ram
  deriving DecidableEq, Repr

/-- A chunk of the memory map (R74): `len` machine addresses from `start` on, placed at the
physical offsets from `phys` on. -/
structure Chunk where
  start : Word
  phys : Nat
  len : Nat
  kind : ChunkKind
  deriving DecidableEq, Repr

/-- `ROM_WRITE_POLICY` (R9, R81). -/
inductive RomWritePolicy where
  /-- A write to a ROM chunk raises `RomWrite`. -/
  | fault
  /-- A write to a ROM chunk changes nothing. -/
  | ignore
  deriving DecidableEq, Repr

/-- `UNDOC_POLICY` (R9, R293). -/
inductive UndocPolicy where
  /-- The twelve undocumented opcodes raise `UnimplementedOpcode`. -/
  | fault
  /-- The spec's `alias`: each acts as the documented instruction 8080 silicon runs for it. -/
  | aliased
  deriving DecidableEq, Repr

/-- `CYCLE_TABLE` (R9, R127, R130, R382). -/
inductive CycleTable where
  /-- The Intel 8080 state counts of R130. -/
  | official
  /-- `FLAT_CYCLES`: one cost for every opcode (R382). -/
  | flat (cost : Nat)
  /-- Any other table: row `op` holds the costs (taken, not taken) of opcode `op`. -/
  | table (rows : List (Nat × Nat))
  deriving DecidableEq, Repr

/-- Whether the host installed a port handler, which is what answers an IN (R95). -/
inductive InputHandler where
  /-- No handler: IN from a port other than the result port gives 0. -/
  | absent
  /-- A handler: each such IN is a fresh draw, `Config.inputOracle`. -/
  | oracle
  deriving DecidableEq, Repr

/-- The parameters of R9 that stay fixed while the machine runs. `ROM_IMAGE` and `RESET_DRAW` are
arguments of construction (Machine/HostMoves.lean), `FLAT_CYCLES` is `CycleTable.flat`. -/
structure Config where
  /-- `STORE_SIZE`: bytes of the backing store. -/
  storeSize : Nat
  /-- `CHUNK_MAP`: the chunks in priority order. -/
  chunkMap : List Chunk
  romWritePolicy : RomWritePolicy
  undocPolicy : UndocPolicy
  /-- `FILL_PORT`. -/
  fillPort : Byte
  /-- `OFFSET_PORT`. -/
  offsetPort : Byte
  /-- `RESULT_PORT`. -/
  resultPort : Byte
  cycleTable : CycleTable
  /-- `HALT_IDLE_CYCLES`. -/
  haltIdleCycles : Nat
  /-- `EI_DELAY`: true is the spec's 1. -/
  eiDelay : Bool
  /-- `CLOCK_HZ`. -/
  clockHz : Nat
  /-- `REFRESH_HZ`. -/
  refreshHz : Nat
  /-- `DISPLAY_HEIGHT`: scanlines per frame. -/
  displayHeight : Nat
  /-- `MID_SCANLINE`. -/
  midScanline : Nat
  /-- `DIP_SWITCHES`. -/
  dipSwitches : Byte
  inputHandler : InputHandler
  deriving DecidableEq, Repr

/-- FREE VALUE (DESIGN CHOICE, safe: notes/assumptions/2.md): `InputOracle` of R9 and R95, the byte the
host's handler answers to the `draw`-th such IN, from port `port`. It has no body: nothing can be proved of
it. -/
opaque Config.inputOracle (draw : Nat) (port : Byte) : Byte

end Sys2Proof
end

