-- ==== Sys2Proof/Machine/Defaults.lean ====
section
/-! DEFINITION. The default parameters of the invaders board (spec 00_scope.md R9, 20_memory.md R89,
60_exceptions.md R333). -/

namespace Sys2Proof.Machine

/-- The default `CHUNK_MAP` (R89): ROM, RAM, and the RAM mirror over the same physical bytes. -/
def defaultChunkMap : List Chunk :=
  [ { start := 0x0000, phys := 0x0000, len := 0x2000, kind := .rom },
    { start := 0x2000, phys := 0x2000, len := 0x2000, kind := .ram },
    { start := 0x4000, phys := 0x2000, len := 0x2000, kind := .ram } ]

/-- The default of every parameter of R9. `DIP_SWITCHES` and the input handler are OPEN there:
0 and a handler that answers with draws are the model's choice (DESIGN CHOICE, unsafe:
notes/assumptions/3.md). -/
def defaultConfig : Config where
  storeSize := 0x4000
  chunkMap := defaultChunkMap
  romWritePolicy := .fault
  undocPolicy := .fault
  fillPort := 4
  offsetPort := 2
  resultPort := 3
  cycleTable := .official
  haltIdleCycles := 4
  eiDelay := false
  clockHz := 2000000
  refreshHz := 60
  displayHeight := 224
  midScanline := 96
  dipSwitches := 0
  inputHandler := .oracle

end Sys2Proof.Machine
end

