-- ==== Sys2Proof/Machine/State.lean ====
section
/-! DEFINITION. The machine's state as plain data (spec 10_state.md), the fault kinds of
60_exceptions.md R311, and the state after reset (10_state.md R58). -/

namespace Sys2Proof.Machine

/-- The five condition flags (R39). -/
structure Flags where
  s : Bool
  z : Bool
  ac : Bool
  p : Bool
  cy : Bool
  deriving DecidableEq, Repr

/-- The backing store (R57): physical offset and byte, offsets strictly rising, no byte listed that
equals what an unlisted offset reads as (`Memory.wf`, Machine/Ops.lean). -/
abbrev Memory := List Host.Cell

/-- A fatal-error record (R56, R311): the kind and the information recorded with it. -/
inductive FaultRecord where
  | unimplementedOpcode (op : Byte) (pc0 : Word)
  | unmappedRead (addr : Word)
  | unmappedWrite (addr : Word)
  | romWrite (addr : Word)
  | physicalOffsetOutOfRange (addr : Word)
  | badInterruptNumber (n : Nat)
  deriving DecidableEq, Repr

/-- `OutputEvent(p, v)` of R96: what an OUT to a port other than the shift ports gave the host. -/
structure OutputEvent where
  port : Byte
  value : Byte
  deriving DecidableEq, Repr

/-- Every piece of state the spec gives the machine (10_state.md sections 1 to 6), and three fields
of the model's own: `cfg`, `outputs` and `inputDraws`. -/
structure State where
  /-- The parameters of R9, which no step changes (DESIGN CHOICE, safe: notes/assumptions/1.md). -/
  cfg : Config
  /-- The seven data registers (R30). -/
  a : Byte
  b : Byte
  c : Byte
  d : Byte
  e : Byte
  h : Byte
  l : Byte
  /-- Stack pointer (R37). -/
  sp : Word
  /-- Program counter (R38). -/
  pc : Word
  /-- Condition flags (R39). -/
  flags : Flags
  /-- Interrupt-enable bit INTE (R48). -/
  inte : Bool
  /-- Halt bit HALT (R49). -/
  halt : Bool
  /-- EISHADOW (R50). -/
  eiShadow : Bool
  /-- PENDING (R50): none or an interrupt number 0 to 7. -/
  pending : Option (BitVec 3)
  /-- SHIFT, the 16-bit shift register (R52). -/
  shift : Word
  /-- SHIFT_OFF, its 3-bit offset (R52). -/
  shiftOff : BitVec 3
  /-- DIP, the DIP-switch byte (R53). -/
  dip : Byte
  /-- CYC, cycles accumulated in the current frame (R54). -/
  cyc : Nat
  /-- MIDFIRED (R54): the mid-frame interrupt was offered in this frame. -/
  midFired : Bool
  /-- FRAME, the completed frames (R54). -/
  frame : Nat
  /-- RUNNING, written only by the host (R55). -/
  running : Bool
  /-- FAULT (R56). -/
  fault : Option FaultRecord
  /-- The backing store (R57). -/
  store : Memory
  /-- The output events so far, oldest first: the observation of R96 (DESIGN CHOICE, safe:
  notes/assumptions/10.md). -/
  outputs : List OutputEvent
  /-- How many draws of the input oracle were used (DESIGN CHOICE, safe: notes/assumptions/2.md). -/
  inputDraws : Nat
  deriving DecidableEq, Repr

/-- Why the machine stops: the fatal errors of R311, each with its information and the FINAL STATE,
in which FAULT is set and every earlier write of the step stands (R126, R310). -/
inductive Fault where
  /-- Code 1, raised by the twelve undocumented opcodes under `UNDOC_POLICY = fault` (R293, R312).
  The spec's own stop, and safe. -/
  | unimplementedOpcode (op : Byte) (pc0 : Word) (final : State)
  /-- Code 2, raised by any engine read, the fetch included, at an address no chunk contains (R80,
  R313). The spec's own stop, and safe. -/
  | unmappedRead (addr : Word) (final : State)
  /-- Code 3, raised by any engine write at an address no chunk contains (R81, R314). The spec's own
  stop, and safe. -/
  | unmappedWrite (addr : Word) (final : State)
  /-- Code 4, raised by any engine write whose first containing chunk is ROM, under
  `ROM_WRITE_POLICY = fault` (R81, R315). The spec's own stop, and safe. -/
  | romWrite (addr : Word) (final : State)
  /-- Code 5, raised by an access whose physical offset passes the backing store (R78, R316); no
  well-formed map reaches it. The spec's own stop, and safe. -/
  | physicalOffsetOutOfRange (addr : Word) (final : State)
  /-- Code 6, raised by an interrupt offered with n >= 8 (R317, R321). The spec's own stop, and
  safe. -/
  | badInterruptNumber (n : Nat) (final : State)
  deriving DecidableEq, Repr

/-- Why a step has no meaning. -/
inductive Refusal where
  /-- Raised by an arm of `exec` that has no meaning yet; no arm is left so. Safe. -/
  | notModelled (mnemonic : String)
  deriving DecidableEq, Repr

/-- `RESET_DRAW` (R9): the values of the state that construction leaves unspecified (R58). -/
structure ResetDraw where
  a : Byte
  b : Byte
  c : Byte
  d : Byte
  e : Byte
  h : Byte
  l : Byte
  sp : Word
  flags : Flags
  /-- The RAM bytes that differ from what an unlisted byte reads as, by physical offset. -/
  ram : Memory
  deriving DecidableEq, Repr

/-- The draw `State.reset` uses: every register, flag and RAM byte 0 (DESIGN CHOICE, unsafe:
notes/assumptions/4.md). -/
def ResetDraw.zero : ResetDraw where
  a := 0
  b := 0
  c := 0
  d := 0
  e := 0
  h := 0
  l := 0
  sp := 0
  flags := { s := false, z := false, ac := false, p := false, cy := false }
  ram := []

/-- The table of R58: the state right after construction with parameters `cfg`, draw `draw`, backing
store `store` and the host's choice `running`. -/
def State.constructed (cfg : Config) (draw : ResetDraw) (store : Memory) (running : Bool) : State where
  cfg := cfg
  a := draw.a
  b := draw.b
  c := draw.c
  d := draw.d
  e := draw.e
  h := draw.h
  l := draw.l
  sp := draw.sp
  pc := 0x0000
  flags := draw.flags
  inte := false
  halt := false
  eiShadow := false
  pending := none
  shift := 0x0000
  shiftOff := 0
  dip := cfg.dipSwitches
  cyc := 0
  midFired := false
  frame := 0
  running := running
  fault := none
  store := store
  outputs := []
  inputDraws := 0

/-- The machine right after reset, with the default parameters, the zero draw and nothing listed in
the store. RUNNING is the host's choice in R58; here it is 1 (DESIGN CHOICE, unsafe:
notes/assumptions/5.md). -/
def State.reset : State :=
  State.constructed defaultConfig ResetDraw.zero [] true

end Sys2Proof.Machine
end

