-- ==== Sys2Proof/Machine/Ops.lean ====
section
/-! DEFINITION. The named operations over memory, the stack and the interrupt interface (spec
20_memory.md R74 to R85, 30_encoding.md R125, 60_exceptions.md R310, R321, R324). A meaning is
written in these; a fault ends it where it happens, with the state as it stands there. -/

namespace Sys2Proof.Machine

/-- What an instruction's operation or a scheduler move answers. -/
abbrev Out := Host.Outcome State Fault Refusal

/-- What a step of the engine answers: the next state and the cycles it reports (R127). -/
abbrev StepOut := Host.Outcome (State × Nat) Fault Refusal

/-! ## One update per field -/

def State.setSp (s : State) (v : Word) : State := { s with sp := v }
def State.setPc (s : State) (v : Word) : State := { s with pc := v }
def State.setFlags (s : State) (f : Flags) : State := { s with flags := f }
def State.setInte (s : State) (v : Bool) : State := { s with inte := v }
def State.setHalt (s : State) (v : Bool) : State := { s with halt := v }
def State.setEiShadow (s : State) (v : Bool) : State := { s with eiShadow := v }
def State.setPending (s : State) (v : Option (BitVec 3)) : State := { s with pending := v }
def State.setShift (s : State) (v : Word) : State := { s with shift := v }
def State.setShiftOff (s : State) (v : BitVec 3) : State := { s with shiftOff := v }
def State.setCyc (s : State) (n : Nat) : State := { s with cyc := n }
def State.setMidFired (s : State) (v : Bool) : State := { s with midFired := v }
def State.setFrame (s : State) (n : Nat) : State := { s with frame := n }
def State.setRunning (s : State) (v : Bool) : State := { s with running := v }
def State.setFault (s : State) (v : Option FaultRecord) : State := { s with fault := v }
def State.setStore (s : State) (m : Memory) : State := { s with store := m }
def State.setOutputs (s : State) (es : List OutputEvent) : State := { s with outputs := es }
def State.setInputDraws (s : State) (n : Nat) : State := { s with inputDraws := n }

/-! ## The backing store -/

/-- What an unlisted offset of the backing store reads as: 0 (DESIGN CHOICE, unsafe: notes/assumptions/6.md). -/
def Memory.unlisted (_offset : Nat) : Byte := 0

/-- The byte at a physical offset. -/
def Memory.read : Memory → Nat → Byte
  | [], k => Memory.unlisted k
  | (k', v) :: rest, k => if k = k' then v else Memory.read rest k

/-- Put a byte in front of the cells after it, unless an unlisted offset reads as that byte. -/
def Memory.cons (k : Nat) (v : Byte) (rest : Memory) : Memory :=
  if v = Memory.unlisted k then rest else (k, v) :: rest

/-- Write one byte, keeping the canonical form. -/
def Memory.write : Memory → Nat → Byte → Memory
  | [], k, v => Memory.cons k v []
  | (k', v') :: rest, k, v =>
    if k < k' then Memory.cons k v ((k', v') :: rest)
    else if k = k' then Memory.cons k v rest
    else (k', v') :: Memory.write rest k v

/-- The canonical form: offsets strictly rising, and no cell an unlisted offset would read as. -/
abbrev Memory.wf (m : Memory) : Prop :=
  m.Pairwise (fun x y => x.1 < y.1) ∧ ∀ x ∈ m, x.2 ≠ Memory.unlisted x.1

/-! ## Faults -/

/-- The fault of a record, with the final state. -/
def FaultRecord.toFault (s : State) : FaultRecord → Fault
  | .unimplementedOpcode op pc0 => .unimplementedOpcode op pc0 s
  | .unmappedRead addr => .unmappedRead addr s
  | .unmappedWrite addr => .unmappedWrite addr s
  | .romWrite addr => .romWrite addr s
  | .physicalOffsetOutOfRange addr => .physicalOffsetOutOfRange addr s
  | .badInterruptNumber n => .badInterruptNumber n s

/-- `raise Fault(kind, info)` (R310): FAULT is set and the machine stops with the state as it is
(DEDUCED, unsafe: notes/assumptions/11.md). -/
def raise {α : Type} (s : State) (r : FaultRecord) : Host.Outcome α Fault Refusal :=
  .fault (r.toFault (s.setFault (some r)))

/-- The code R311 gives a fault kind. -/
def FaultRecord.code : FaultRecord → Nat
  | .unimplementedOpcode _ _ => 1
  | .unmappedRead _ => 2
  | .unmappedWrite _ => 3
  | .romWrite _ => 4
  | .physicalOffsetOutOfRange _ => 5
  | .badInterruptNumber _ => 6

/-- The state a fault left (R310). -/
def Fault.final : Fault → State
  | .unimplementedOpcode _ _ s => s
  | .unmappedRead _ s => s
  | .unmappedWrite _ s => s
  | .romWrite _ s => s
  | .physicalOffsetOutOfRange _ s => s
  | .badInterruptNumber _ s => s

/-! ## The chunk resolver -/

/-- The chunk covers machine address `addr` (R74). -/
def chunkCovers (addr : Word) (ch : Chunk) : Bool :=
  decide (ch.start.toNat ≤ addr.toNat) && decide (addr.toNat < ch.start.toNat + ch.len)

/-- `PhysOffset(ch, a)` (R78). -/
def physOffset (ch : Chunk) (addr : Word) : Nat := ch.phys + (addr.toNat - ch.start.toNat)

/-- The first chunk in priority order that covers the address (R76, R77). -/
def findChunk (cfg : Config) (addr : Word) : Option Chunk := cfg.chunkMap.find? (chunkCovers addr)

/-- `ResolveRead(a)` (R76): the physical offset, or none for NotFound. -/
def resolveRead (cfg : Config) (addr : Word) : Option Nat :=
  (findChunk cfg addr).map fun ch => physOffset ch addr

/-- What a write resolves to (R77). -/
inductive WriteTarget where
  | found (offset : Nat)
  | rejected
  | notFound
  deriving DecidableEq, Repr

/-- `ResolveWrite(a)` (R77). -/
def resolveWrite (cfg : Config) (addr : Word) : WriteTarget :=
  match findChunk cfg addr with
  | none => .notFound
  | some ch =>
    match ch.kind with
    | .rom => .rejected
    | .ram => .found (physOffset ch addr)

/-! ## Access primitives -/

/-- `MemRead(a, 1)` (R78, R80). -/
def memRead (s : State) (addr : Word) : Except FaultRecord Byte :=
  match resolveRead s.cfg addr with
  | none => .error (.unmappedRead addr)
  | some off =>
    if off < s.cfg.storeSize then .ok (Memory.read s.store off)
    else .error (.physicalOffsetOutOfRange addr)

/-- `MemWrite(a, 1, v)` (R78, R81). -/
def memWrite (s : State) (addr : Word) (v : Byte) : Except FaultRecord State :=
  match resolveWrite s.cfg addr with
  | .notFound => .error (.unmappedWrite addr)
  | .rejected =>
    match s.cfg.romWritePolicy with
    | .fault => .error (.romWrite addr)
    | .ignore => .ok s
  | .found off =>
    if off < s.cfg.storeSize then .ok (s.setStore (Memory.write s.store off v))
    else .error (.physicalOffsetOutOfRange addr)

/-- Read a byte and go on with it, or stop with the fault of the read. -/
def readThen {α : Type} (s : State) (addr : Word) (k : Byte → Host.Outcome α Fault Refusal) :
    Host.Outcome α Fault Refusal :=
  match memRead s addr with
  | .ok v => k v
  | .error r => raise s r

/-- Write a byte and go on from there, or stop with the fault of the write. -/
def writeThen {α : Type} (s : State) (addr : Word) (v : Byte)
    (k : State → Host.Outcome α Fault Refusal) : Host.Outcome α Fault Refusal :=
  match memWrite s addr v with
  | .ok s' => k s'
  | .error r => raise s r

/-- `MemRead(a, 2)` (R82): low byte first, the high byte at the next address modulo 2^16. -/
def readWordThen {α : Type} (s : State) (addr : Word) (k : Word → Host.Outcome α Fault Refusal) :
    Host.Outcome α Fault Refusal :=
  readThen s addr fun lo => readThen s (addr + 1) fun hi => k (joinBytes hi lo)

/-- `MemWrite(a, 2, v)` (R83): low byte first; a fault of the second write leaves the first written. -/
def writeWordThen {α : Type} (s : State) (addr v : Word) (k : State → Host.Outcome α Fault Refusal) :
    Host.Outcome α Fault Refusal :=
  writeThen s addr (lowByte v) fun s1 => writeThen s1 (addr + 1) (highByte v) k

/-! ## The stack -/

/-- `Push16(v)` (R84): high byte at SP-1, low byte at SP-2, then SP; a fault leaves SP. -/
def push16 {α : Type} (s : State) (v : Word) (k : State → Host.Outcome α Fault Refusal) :
    Host.Outcome α Fault Refusal :=
  writeThen s (s.sp - 1) (highByte v) fun s1 =>
    writeThen s1 (s.sp - 2) (lowByte v) fun s2 => k (s2.setSp (s.sp - 2))

/-- `Pop16()` (R85): low byte at SP, high byte at SP+1, then SP; a fault leaves SP. -/
def pop16 {α : Type} (s : State) (k : Word → State → Host.Outcome α Fault Refusal) :
    Host.Outcome α Fault Refusal :=
  readThen s s.sp fun lo =>
    readThen s (s.sp + 1) fun hi => k (joinBytes hi lo) (s.setSp (s.sp + 2))

/-! ## Interrupts: entry and return -/

/-- The entry point `8 * n` of restart or interrupt `n` (R88, R115). -/
def restartTarget (n : BitVec 3) : Word := BitVec.ofNat 16 (8 * n.toNat)

/-- `Accept(n)` (R324), trap entry: HALT and INTE are cleared, PC is pushed, PC becomes `8 * n`, at the
cost of an RST. If the push faults, HALT and INTE are already cleared and PC stays. -/
def accept (n : BitVec 3) (s : State) : StepOut :=
  push16 ((s.setHalt false).setInte false) s.pc fun s1 => .next (s1.setPc (restartTarget n), 11)

/-- `Interrupt(n)` (R321): offer interrupt `n` between two steps; the answer holds the cycles it took. -/
def interrupt (n : Nat) (s : State) : StepOut :=
  if 8 ≤ n then raise s (.badInterruptNumber n)
  else if s.fault ≠ none then .next (s, 0)
  else if s.inte = false then .next (s, 0)
  else if s.eiShadow = true then
    .next (if s.pending = none then s.setPending (some (BitVec.ofNat 3 n)) else s, 0)
  else accept (BitVec.ofNat 3 n) s

/-- Return from a call or from an interrupt (R254, R328): PC is popped; INTE is not touched. -/
def retOp (s : State) : Out := pop16 s fun v s1 => .next (s1.setPc v)

/-! ## Fetch -/

/-- The fetch of R125 at PC: the opcode byte, then the operand bytes of its row in address order, every
one of them on every execution (R126). -/
def fetch (s : State) : Except FaultRecord Instr :=
  match memRead s s.pc with
  | .error r => .error r
  | .ok op =>
    match rowOf op with
    | .f1 i => .ok i
    | .f2 make =>
      match memRead s (s.pc + 1) with
      | .error r => .error r
      | .ok v => .ok (make v)
    | .f3 make =>
      match memRead s (s.pc + 1) with
      | .error r => .error r
      | .ok lo =>
        match memRead s (s.pc + 2) with
        | .error r => .error r
        | .ok hi => .ok (make (joinBytes hi lo))

/-- Put a byte where a read of `addr` finds it, ROM or RAM; no change where nothing is mapped. -/
def loadByte (s : State) (addr : Word) (v : Byte) : State :=
  match resolveRead s.cfg addr with
  | none => s
  | some off => if off < s.cfg.storeSize then s.setStore (Memory.write s.store off v) else s

end Sys2Proof.Machine
end

