-- ==== Sys2Proof/Machine/Operands.lean ====
section
/-! DEFINITION. Registers, register pairs and 8-bit operands (spec 10_state.md R31 to R34, R45). -/

namespace Sys2Proof.Machine

/-- `x[r]` (R12, R30). -/
def State.reg (s : State) : Reg8 → Byte
  | .b => s.b
  | .c => s.c
  | .d => s.d
  | .e => s.e
  | .h => s.h
  | .l => s.l
  | .a => s.a

/-- `x[r] <- v` (R12). -/
def State.setReg (s : State) (r : Reg8) (v : Byte) : State :=
  match r with
  | .b => { s with b := v }
  | .c => { s with c := v }
  | .d => { s with d := v }
  | .e => { s with e := v }
  | .h => { s with h := v }
  | .l => { s with l := v }
  | .a => { s with a := v }

/-- A pair's value (R31): its first register is the high byte. SP is itself. -/
def State.pair (s : State) : RegPair → Word
  | .bc => joinBytes s.b s.c
  | .de => joinBytes s.d s.e
  | .hl => joinBytes s.h s.l
  | .sp => s.sp

/-- Writing a pair (R31): bits 15:8 to the first register, bits 7:0 to the second. -/
def State.setPair (s : State) (rp : RegPair) (v : Word) : State :=
  match rp with
  | .bc => (s.setReg .b (highByte v)).setReg .c (lowByte v)
  | .de => (s.setReg .d (highByte v)).setReg .e (lowByte v)
  | .hl => (s.setReg .h (highByte v)).setReg .l (lowByte v)
  | .sp => s.setSp v

/-- `x[HL]`, the address of M (R32). -/
def State.hl (s : State) : Word := s.pair .hl

/-- The code of a register (R32). -/
def regCode : Reg8 → BitVec 3
  | .b => 0b000
  | .c => 0b001
  | .d => 0b010
  | .e => 0b011
  | .h => 0b100
  | .l => 0b101
  | .a => 0b111

/-- The code of an 8-bit operand (R32): 110 is M. -/
def operandCode : Operand8 → BitVec 3
  | .reg r => regCode r
  | .m => 0b110

/-- The code of a pair (R34). -/
def pairCode : RegPair → BitVec 2
  | .bc => 0b00
  | .de => 0b01
  | .hl => 0b10
  | .sp => 0b11

/-- The code of a condition (R45). -/
def condCode : Cond → BitVec 3
  | .nz => 0b000
  | .z => 0b001
  | .nc => 0b010
  | .c => 0b011
  | .po => 0b100
  | .pe => 0b101
  | .p => 0b110
  | .m => 0b111

/-- The condition of a code (R45). -/
def condOfCode (ccc : BitVec 3) : Cond :=
  match ccc.toNat with
  | 0 => .nz
  | 1 => .z
  | 2 => .nc
  | 3 => .c
  | 4 => .po
  | 5 => .pe
  | 6 => .p
  | _ => .m

/-- The code of an ALU operation (R112). -/
def aluCode : AluOp → BitVec 3
  | .add => 0b000
  | .adc => 0b001
  | .sub => 0b010
  | .sbb => 0b011
  | .ana => 0b100
  | .xra => 0b101
  | .ora => 0b110
  | .cmp => 0b111

/-- `Cond(ccc)` (R45): exactly one flag is tested. -/
def condHolds (f : Flags) : Cond → Bool
  | .nz => !f.z
  | .z => f.z
  | .nc => !f.cy
  | .c => f.cy
  | .po => !f.p
  | .pe => f.p
  | .p => !f.s
  | .m => f.s

/-- `Reg8Read` (R33). -/
def readOperand (s : State) (o : Operand8) (k : Byte → Out) : Out :=
  match o with
  | .reg r => k (s.reg r)
  | .m => readThen s s.hl k

/-- `Reg8Write` (R33). -/
def writeOperand (s : State) (o : Operand8) (v : Byte) (k : State → Out) : Out :=
  match o with
  | .reg r => k (s.setReg r v)
  | .m => writeThen s s.hl v k

end Sys2Proof.Machine
end

