-- ==== Sys2Proof/Machine/Cycles.lean ====
section
/-! DEFINITION. The cycle costs (spec 30_encoding.md R127, R130, 70_reset_and_hazards.md R382). They
decide only when the scheduler offers interrupts. -/

namespace Sys2Proof.Machine

/-- The official costs of R130, one line per high half of the opcode; the cost when a conditional call
or return is taken. -/
def officialTaken : List (List Nat) :=
  [
    [4, 10, 7, 5, 5, 5, 7, 4, 4, 10, 7, 5, 5, 5, 7, 4],
    [4, 10, 7, 5, 5, 5, 7, 4, 4, 10, 7, 5, 5, 5, 7, 4],
    [4, 10, 16, 5, 5, 5, 7, 4, 4, 10, 16, 5, 5, 5, 7, 4],
    [4, 10, 13, 5, 10, 10, 10, 4, 4, 10, 13, 5, 5, 5, 7, 4],
    [5, 5, 5, 5, 5, 5, 7, 5, 5, 5, 5, 5, 5, 5, 7, 5],
    [5, 5, 5, 5, 5, 5, 7, 5, 5, 5, 5, 5, 5, 5, 7, 5],
    [5, 5, 5, 5, 5, 5, 7, 5, 5, 5, 5, 5, 5, 5, 7, 5],
    [7, 7, 7, 7, 7, 7, 7, 7, 5, 5, 5, 5, 5, 5, 7, 5],
    [4, 4, 4, 4, 4, 4, 7, 4, 4, 4, 4, 4, 4, 4, 7, 4],
    [4, 4, 4, 4, 4, 4, 7, 4, 4, 4, 4, 4, 4, 4, 7, 4],
    [4, 4, 4, 4, 4, 4, 7, 4, 4, 4, 4, 4, 4, 4, 7, 4],
    [4, 4, 4, 4, 4, 4, 7, 4, 4, 4, 4, 4, 4, 4, 7, 4],
    [11, 10, 10, 10, 17, 11, 7, 11, 11, 10, 10, 10, 17, 17, 7, 11],
    [11, 10, 10, 10, 17, 11, 7, 11, 11, 10, 10, 10, 17, 17, 7, 11],
    [11, 10, 10, 18, 17, 11, 7, 11, 11, 5, 10, 4, 17, 17, 7, 11],
    [11, 10, 10, 4, 17, 11, 7, 11, 11, 5, 10, 4, 17, 17, 7, 11] ]

/-- A conditional return, `11CCC000` (R121). -/
def isReturnIf (op : Byte) : Bool := decide (op.extractLsb' 6 2 = 0b11 ∧ op.extractLsb' 0 3 = 0b000)

/-- A conditional call, `11CCC100` (R121). -/
def isCallIf (op : Byte) : Bool := decide (op.extractLsb' 6 2 = 0b11 ∧ op.extractLsb' 0 3 = 0b100)

/-- The official table of R130: `CYCLE_TABLE(op, taken)`; not taken, a conditional return costs 5 and a
conditional call 11. -/
def officialCycles (op : Byte) (taken : Bool) : Nat :=
  if isReturnIf op && !taken then 5
  else if isCallIf op && !taken then 11
  else (officialTaken.getD (op.toNat / 16) []).getD (op.toNat % 16) 0

/-- `CYCLE_TABLE(op, taken)` of a parameter (R9, R382); an opcode past the end of a table costs 1
(DESIGN CHOICE, safe: notes/assumptions/12.md). -/
def tableCycles (t : CycleTable) (op : Byte) (taken : Bool) : Nat :=
  match t with
  | .official => officialCycles op taken
  | .flat cost => cost
  | .table rows =>
    let row := rows.getD op.toNat (1, 1)
    if taken then row.1 else row.2

/-- Whether a conditional call or return transfers control under these flags (R127); any other
instruction counts as taken (DESIGN CHOICE, safe: notes/assumptions/13.md). -/
def takenUnder (op : Byte) (f : Flags) : Bool :=
  if isReturnIf op || isCallIf op then condHolds f (condOfCode (op.extractLsb' 3 3)) else true

/-- The cost the step of instruction `i` reports, `s` being the state its operation starts in (R127). -/
def instrCycles (i : Instr) (s : State) : Nat :=
  tableCycles s.cfg.cycleTable i.opcode (takenUnder i.opcode s.flags)

end Sys2Proof.Machine
end

