-- ==== Sys2Proof/Machine/DataTransfer.lean ====
section
/-! DEFINITION. Data transfer (spec 40_data_transfer.md R140 to R152). No instruction here touches a flag.
PC is already past the instruction (R125). -/

namespace Sys2Proof.Machine

/-- MOV (R140, R141, R142): the source is read first. -/
def moveOp (dst src : Operand8) (s : State) : Out :=
  readOperand s src fun v => writeOperand s dst v .next

/-- MVI (R143, R144). -/
def storeOp (dst : Operand8) (v : Byte) (s : State) : Out := writeOperand s dst v .next

/-- LXI (R145). -/
def loadPairOp (rp : RegPair) (w : Word) (s : State) : Out := .next (s.setPair rp w)

/-- LDA and LDAX (R146, R150): A from the byte at an address. -/
def loadAccOp (addr : Word) (s : State) : Out := readThen s addr fun v => .next (s.setReg .a v)

/-- STA and STAX (R147, R151): A to the byte at an address. -/
def storeAccOp (addr : Word) (s : State) : Out := writeThen s addr (s.reg .a) .next

/-- LHLD (R148). -/
def lhldOp (addr : Word) (s : State) : Out := readWordThen s addr fun v => .next (s.setPair .hl v)

/-- SHLD (R149). -/
def shldOp (addr : Word) (s : State) : Out := writeWordThen s addr s.hl .next

/-- XCHG (R152). -/
def xchgOp (s : State) : Out := .next ((s.setPair .hl (s.pair .de)).setPair .de s.hl)

/-! One meaning per instruction, named after its constructor. -/

/-- LXI B,a16 (R145). -/
def execLxiB (w : Word) (s : State) : Out := loadPairOp .bc w s
/-- STAX B (R151). -/
def execStaxB (s : State) : Out := storeAccOp (s.pair .bc) s
/-- MVI B,d8 (R143). -/
def execMviB (v : Byte) (s : State) : Out := storeOp (.reg .b) v s
/-- LDAX B (R150). -/
def execLdaxB (s : State) : Out := loadAccOp (s.pair .bc) s
/-- MVI C,d8 (R143). -/
def execMviC (v : Byte) (s : State) : Out := storeOp (.reg .c) v s
/-- LXI D,a16 (R145). -/
def execLxiD (w : Word) (s : State) : Out := loadPairOp .de w s
/-- STAX D (R151). -/
def execStaxD (s : State) : Out := storeAccOp (s.pair .de) s
/-- MVI D,d8 (R143). -/
def execMviD (v : Byte) (s : State) : Out := storeOp (.reg .d) v s
/-- LDAX D (R150). -/
def execLdaxD (s : State) : Out := loadAccOp (s.pair .de) s
/-- MVI E,d8 (R143). -/
def execMviE (v : Byte) (s : State) : Out := storeOp (.reg .e) v s
/-- LXI H,a16 (R145). -/
def execLxiH (w : Word) (s : State) : Out := loadPairOp .hl w s
/-- SHLD a16 (R149). -/
def execShld (w : Word) (s : State) : Out := shldOp w s
/-- MVI H,d8 (R143). -/
def execMviH (v : Byte) (s : State) : Out := storeOp (.reg .h) v s
/-- LHLD a16 (R148). -/
def execLhld (w : Word) (s : State) : Out := lhldOp w s
/-- MVI L,d8 (R143). -/
def execMviL (v : Byte) (s : State) : Out := storeOp (.reg .l) v s
/-- LXI SP,a16 (R145). -/
def execLxiSP (w : Word) (s : State) : Out := loadPairOp .sp w s
/-- STA a16 (R147). -/
def execSta (w : Word) (s : State) : Out := storeAccOp w s
/-- MVI M,d8 (R144). -/
def execMviM (v : Byte) (s : State) : Out := storeOp .m v s
/-- LDA a16 (R146). -/
def execLda (w : Word) (s : State) : Out := loadAccOp w s
/-- MVI A,d8 (R143). -/
def execMviA (v : Byte) (s : State) : Out := storeOp (.reg .a) v s
/-- MOV B,B (R140). -/
def execMovBB (s : State) : Out := moveOp (.reg .b) (.reg .b) s
/-- MOV B,C (R140). -/
def execMovBC (s : State) : Out := moveOp (.reg .b) (.reg .c) s
/-- MOV B,D (R140). -/
def execMovBD (s : State) : Out := moveOp (.reg .b) (.reg .d) s
/-- MOV B,E (R140). -/
def execMovBE (s : State) : Out := moveOp (.reg .b) (.reg .e) s
/-- MOV B,H (R140). -/
def execMovBH (s : State) : Out := moveOp (.reg .b) (.reg .h) s
/-- MOV B,L (R140). -/
def execMovBL (s : State) : Out := moveOp (.reg .b) (.reg .l) s
/-- MOV B,M (R141). -/
def execMovBM (s : State) : Out := moveOp (.reg .b) .m s
/-- MOV B,A (R140). -/
def execMovBA (s : State) : Out := moveOp (.reg .b) (.reg .a) s
/-- MOV C,B (R140). -/
def execMovCB (s : State) : Out := moveOp (.reg .c) (.reg .b) s
/-- MOV C,C (R140). -/
def execMovCC (s : State) : Out := moveOp (.reg .c) (.reg .c) s
/-- MOV C,D (R140). -/
def execMovCD (s : State) : Out := moveOp (.reg .c) (.reg .d) s
/-- MOV C,E (R140). -/
def execMovCE (s : State) : Out := moveOp (.reg .c) (.reg .e) s
/-- MOV C,H (R140). -/
def execMovCH (s : State) : Out := moveOp (.reg .c) (.reg .h) s
/-- MOV C,L (R140). -/
def execMovCL (s : State) : Out := moveOp (.reg .c) (.reg .l) s
/-- MOV C,M (R141). -/
def execMovCM (s : State) : Out := moveOp (.reg .c) .m s
/-- MOV C,A (R140). -/
def execMovCA (s : State) : Out := moveOp (.reg .c) (.reg .a) s
/-- MOV D,B (R140). -/
def execMovDB (s : State) : Out := moveOp (.reg .d) (.reg .b) s
/-- MOV D,C (R140). -/
def execMovDC (s : State) : Out := moveOp (.reg .d) (.reg .c) s
/-- MOV D,D (R140). -/
def execMovDD (s : State) : Out := moveOp (.reg .d) (.reg .d) s
/-- MOV D,E (R140). -/
def execMovDE (s : State) : Out := moveOp (.reg .d) (.reg .e) s
/-- MOV D,H (R140). -/
def execMovDH (s : State) : Out := moveOp (.reg .d) (.reg .h) s
/-- MOV D,L (R140). -/
def execMovDL (s : State) : Out := moveOp (.reg .d) (.reg .l) s
/-- MOV D,M (R141). -/
def execMovDM (s : State) : Out := moveOp (.reg .d) .m s
/-- MOV D,A (R140). -/
def execMovDA (s : State) : Out := moveOp (.reg .d) (.reg .a) s
/-- MOV E,B (R140). -/
def execMovEB (s : State) : Out := moveOp (.reg .e) (.reg .b) s
/-- MOV E,C (R140). -/
def execMovEC (s : State) : Out := moveOp (.reg .e) (.reg .c) s
/-- MOV E,D (R140). -/
def execMovED (s : State) : Out := moveOp (.reg .e) (.reg .d) s
/-- MOV E,E (R140). -/
def execMovEE (s : State) : Out := moveOp (.reg .e) (.reg .e) s
/-- MOV E,H (R140). -/
def execMovEH (s : State) : Out := moveOp (.reg .e) (.reg .h) s
/-- MOV E,L (R140). -/
def execMovEL (s : State) : Out := moveOp (.reg .e) (.reg .l) s
/-- MOV E,M (R141). -/
def execMovEM (s : State) : Out := moveOp (.reg .e) .m s
/-- MOV E,A (R140). -/
def execMovEA (s : State) : Out := moveOp (.reg .e) (.reg .a) s
/-- MOV H,B (R140). -/
def execMovHB (s : State) : Out := moveOp (.reg .h) (.reg .b) s
/-- MOV H,C (R140). -/
def execMovHC (s : State) : Out := moveOp (.reg .h) (.reg .c) s
/-- MOV H,D (R140). -/
def execMovHD (s : State) : Out := moveOp (.reg .h) (.reg .d) s
/-- MOV H,E (R140). -/
def execMovHE (s : State) : Out := moveOp (.reg .h) (.reg .e) s
/-- MOV H,H (R140). -/
def execMovHH (s : State) : Out := moveOp (.reg .h) (.reg .h) s
/-- MOV H,L (R140). -/
def execMovHL (s : State) : Out := moveOp (.reg .h) (.reg .l) s
/-- MOV H,M (R141). -/
def execMovHM (s : State) : Out := moveOp (.reg .h) .m s
/-- MOV H,A (R140). -/
def execMovHA (s : State) : Out := moveOp (.reg .h) (.reg .a) s
/-- MOV L,B (R140). -/
def execMovLB (s : State) : Out := moveOp (.reg .l) (.reg .b) s
/-- MOV L,C (R140). -/
def execMovLC (s : State) : Out := moveOp (.reg .l) (.reg .c) s
/-- MOV L,D (R140). -/
def execMovLD (s : State) : Out := moveOp (.reg .l) (.reg .d) s
/-- MOV L,E (R140). -/
def execMovLE (s : State) : Out := moveOp (.reg .l) (.reg .e) s
/-- MOV L,H (R140). -/
def execMovLH (s : State) : Out := moveOp (.reg .l) (.reg .h) s
/-- MOV L,L (R140). -/
def execMovLL (s : State) : Out := moveOp (.reg .l) (.reg .l) s
/-- MOV L,M (R141). -/
def execMovLM (s : State) : Out := moveOp (.reg .l) .m s
/-- MOV L,A (R140). -/
def execMovLA (s : State) : Out := moveOp (.reg .l) (.reg .a) s
/-- MOV M,B (R142). -/
def execMovMB (s : State) : Out := moveOp .m (.reg .b) s
/-- MOV M,C (R142). -/
def execMovMC (s : State) : Out := moveOp .m (.reg .c) s
/-- MOV M,D (R142). -/
def execMovMD (s : State) : Out := moveOp .m (.reg .d) s
/-- MOV M,E (R142). -/
def execMovME (s : State) : Out := moveOp .m (.reg .e) s
/-- MOV M,H (R142). -/
def execMovMH (s : State) : Out := moveOp .m (.reg .h) s
/-- MOV M,L (R142). -/
def execMovML (s : State) : Out := moveOp .m (.reg .l) s
/-- MOV M,A (R142). -/
def execMovMA (s : State) : Out := moveOp .m (.reg .a) s
/-- MOV A,B (R140). -/
def execMovAB (s : State) : Out := moveOp (.reg .a) (.reg .b) s
/-- MOV A,C (R140). -/
def execMovAC (s : State) : Out := moveOp (.reg .a) (.reg .c) s
/-- MOV A,D (R140). -/
def execMovAD (s : State) : Out := moveOp (.reg .a) (.reg .d) s
/-- MOV A,E (R140). -/
def execMovAE (s : State) : Out := moveOp (.reg .a) (.reg .e) s
/-- MOV A,H (R140). -/
def execMovAH (s : State) : Out := moveOp (.reg .a) (.reg .h) s
/-- MOV A,L (R140). -/
def execMovAL (s : State) : Out := moveOp (.reg .a) (.reg .l) s
/-- MOV A,M (R141). -/
def execMovAM (s : State) : Out := moveOp (.reg .a) .m s
/-- MOV A,A (R140). -/
def execMovAA (s : State) : Out := moveOp (.reg .a) (.reg .a) s
/-- XCHG (R152). -/
def execXchg (s : State) : Out := xchgOp s

end Sys2Proof.Machine
end

