-- ==== Sys2Proof/Machine/Flags.lean ====
section
/-! DEFINITION. Every flag computation of the spec (10_state.md R40 to R42, R46, R47; 41_arithmetic.md
R170, R171, R184, R186, R190, R191; 42_logical.md R210, R223 to R226), on numbers as the spec writes
them: exact, narrowed at the end. -/

namespace Sys2Proof.Machine

/-- `popcount(v)` (R14). -/
def popcount (v : Byte) : Nat := ((List.range 8).filter fun k => v.getLsbD k).length

/-- `ZSP(r)` (R40): Z, S and P from the result byte; CY and AC stay. -/
def zsp (f : Flags) (r : Byte) : Flags :=
  { f with z := decide (r = 0), s := r.getLsbD 7, p := decide (popcount r % 2 = 0) }

/-- The low half `v[3:0]` of a byte. -/
def lowNibble (v : Byte) : Nat := v.toNat % 16

/-- The high half `v[7:4]` of a byte. -/
def highNibble (v : Byte) : Nat := v.toNat / 16

/-- A byte and the flags it leaves. -/
structure AluResult where
  value : Byte
  flags : Flags
  deriving DecidableEq, Repr

/-- `AddOp` (R170). -/
def addBytes (f : Flags) (a b : Byte) (cin : Bool) : AluResult :=
  let sum := a.toNat + b.toNat + cin.toNat
  let r := BitVec.ofNat 8 sum
  { value := r
    flags := zsp { f with
      cy := decide (255 < sum)
      ac := decide (15 < lowNibble a + lowNibble b + cin.toNat) } r }

/-- `SubOp` (R171): CY is the borrow, AC the carry out of bit 3 of the complement addition. -/
def subBytes (f : Flags) (a b : Byte) (bin : Bool) : AluResult :=
  let r := a - b - BitVec.ofNat 8 bin.toNat
  { value := r
    flags := zsp { f with
      cy := decide (a.toNat < b.toNat + bin.toNat)
      ac := decide (15 < lowNibble a + lowNibble (~~~b) + (1 - bin.toNat)) } r }

/-- `AndOp` (R210): CY is cleared, AC is bit 3 of the OR of the operands. -/
def andBytes (f : Flags) (a b : Byte) : AluResult :=
  { value := a &&& b, flags := zsp { f with cy := false, ac := (a ||| b).getLsbD 3 } (a &&& b) }

/-- `XorOp` (R210): CY and AC are cleared. -/
def xorBytes (f : Flags) (a b : Byte) : AluResult :=
  { value := a ^^^ b, flags := zsp { f with cy := false, ac := false } (a ^^^ b) }

/-- `OrOp` (R210): CY and AC are cleared. -/
def orBytes (f : Flags) (a b : Byte) : AluResult :=
  { value := a ||| b, flags := zsp { f with cy := false, ac := false } (a ||| b) }

/-- The ALU operation AAA (R112) on A and an operand. CMP's value is the difference it does not store. -/
def alu (op : AluOp) (f : Flags) (a b : Byte) : AluResult :=
  match op with
  | .add => addBytes f a b false
  | .adc => addBytes f a b f.cy
  | .sub => subBytes f a b false
  | .sbb => subBytes f a b f.cy
  | .ana => andBytes f a b
  | .xra => xorBytes f a b
  | .ora => orBytes f a b
  | .cmp => subBytes f a b false

/-- INR (R184, R185): CY stays; AC is set when the result's low half is 0. -/
def incByte (f : Flags) (v : Byte) : AluResult :=
  let r := v + 1
  { value := r, flags := zsp { f with ac := decide (lowNibble r = 0) } r }

/-- DCR (R186, R187): CY stays; AC is set unless the result's low half is 0xF. -/
def decByte (f : Flags) (v : Byte) : AluResult :=
  let r := v - 1
  { value := r, flags := zsp { f with ac := decide (lowNibble r ≠ 0xF) } r }

/-- DAA's low correction (R191): 6 or nothing. -/
def daaLow (f : Flags) (a : Byte) : Nat :=
  if 9 < lowNibble a ∨ f.ac = true then 0x06 else 0

/-- DAA's high correction is made (R191). -/
def daaHigh (f : Flags) (a : Byte) : Bool :=
  decide (9 < highNibble a ∨ f.cy = true ∨ (9 ≤ highNibble a ∧ 9 < lowNibble a))

/-- DAA (R191). -/
def daaByte (f : Flags) (a : Byte) : AluResult :=
  let corr := daaLow f a + (if daaHigh f a then 0x60 else 0)
  let r := BitVec.ofNat 8 (a.toNat + corr)
  { value := r
    flags := zsp { f with
      ac := decide (15 < lowNibble a + corr % 16)
      cy := daaHigh f a || f.cy } r }

/-- RLC (R223): bit 7 enters bit 0 and CY. -/
def rlcByte (f : Flags) (a : Byte) : AluResult :=
  { value := (a <<< 1) ||| BitVec.ofNat 8 (a.getLsbD 7).toNat, flags := { f with cy := a.getLsbD 7 } }

/-- RRC (R224): bit 0 enters bit 7 and CY. -/
def rrcByte (f : Flags) (a : Byte) : AluResult :=
  { value := (a >>> 1) ||| (BitVec.ofNat 8 (a.getLsbD 0).toNat <<< 7)
    flags := { f with cy := a.getLsbD 0 } }

/-- RAL (R225): the old CY enters bit 0, bit 7 enters CY. -/
def ralByte (f : Flags) (a : Byte) : AluResult :=
  { value := (a <<< 1) ||| BitVec.ofNat 8 f.cy.toNat, flags := { f with cy := a.getLsbD 7 } }

/-- RAR (R226): the old CY enters bit 7, bit 0 enters CY. -/
def rarByte (f : Flags) (a : Byte) : AluResult :=
  { value := (a >>> 1) ||| (BitVec.ofNat 8 f.cy.toNat <<< 7), flags := { f with cy := a.getLsbD 0 } }

/-- `PackFlags()` (R46): S Z 0 AC 0 P 1 CY from bit 7 to bit 0. -/
def packFlags (f : Flags) : Byte :=
  BitVec.ofNat 8 (f.s.toNat * 0x80 + f.z.toNat * 0x40 + f.ac.toNat * 0x10 + f.p.toNat * 0x04 + 0x02
    + f.cy.toNat)

/-- `UnpackFlags(b)` (R47): bits 5, 3 and 1 are ignored. -/
def unpackFlags (v : Byte) : Flags :=
  { s := v.getLsbD 7, z := v.getLsbD 6, ac := v.getLsbD 4, p := v.getLsbD 2, cy := v.getLsbD 0 }

end Sys2Proof.Machine
end

