-- ==== Sys2Proof/Machine/Arithmetic.lean ====
section
/-! DEFINITION. Arithmetic (spec 41_arithmetic.md R170 to R191), and the shared form of the eight ALU
operations (R112, R120). -/

namespace Sys2Proof.Machine

/-- The ALU operation on A and a byte: every operation but CMP writes A (R170, R171, R210, R220). -/
def aluStep (op : AluOp) (v : Byte) (s : State) : State :=
  let res := alu op s.flags s.a v
  (if op = .cmp then s else s.setReg .a res.value).setFlags res.flags

/-- The register and memory forms: a faulting read leaves A and the flags. -/
def aluOperandOp (op : AluOp) (o : Operand8) (s : State) : Out :=
  readOperand s o fun v => .next (aluStep op v s)

/-- The immediate forms. -/
def aluImmediateOp (op : AluOp) (v : Byte) (s : State) : Out := .next (aluStep op v s)

/-- INR (R184, R185): the flags are written before the operand, so a faulting write leaves them written. -/
def incrementOp (o : Operand8) (s : State) : Out :=
  readOperand s o fun v =>
    writeOperand (s.setFlags (incByte s.flags v).flags) o (incByte s.flags v).value .next

/-- DCR (R186, R187), in the same order. -/
def decrementOp (o : Operand8) (s : State) : Out :=
  readOperand s o fun v =>
    writeOperand (s.setFlags (decByte s.flags v).flags) o (decByte s.flags v).value .next

/-- INX (R188). -/
def inxOp (rp : RegPair) (s : State) : Out := .next (s.setPair rp (s.pair rp + 1))

/-- DCX (R189). -/
def dcxOp (rp : RegPair) (s : State) : Out := .next (s.setPair rp (s.pair rp - 1))

/-- DAD (R190): the sum is computed widened and its carry is CY. -/
def dadOp (rp : RegPair) (s : State) : Out :=
  let sum := s.hl.toNat + (s.pair rp).toNat
  .next ((s.setFlags { s.flags with cy := decide (0xFFFF < sum) }).setPair .hl (BitVec.ofNat 16 sum))

/-- An operation on A alone, with the flags it leaves. -/
def accStep (f : Flags → Byte → AluResult) (s : State) : Out :=
  .next ((s.setReg .a (f s.flags s.a).value).setFlags (f s.flags s.a).flags)

/-- DAA (R191). -/
def daaOp (s : State) : Out := accStep daaByte s

/-! One meaning per instruction, named after its constructor. -/

/-- INX B (R188). -/
def execInxB (s : State) : Out := inxOp .bc s
/-- INR B (R184). -/
def execInrB (s : State) : Out := incrementOp (.reg .b) s
/-- DCR B (R186). -/
def execDcrB (s : State) : Out := decrementOp (.reg .b) s
/-- DAD B (R190). -/
def execDadB (s : State) : Out := dadOp .bc s
/-- DCX B (R189). -/
def execDcxB (s : State) : Out := dcxOp .bc s
/-- INR C (R184). -/
def execInrC (s : State) : Out := incrementOp (.reg .c) s
/-- DCR C (R186). -/
def execDcrC (s : State) : Out := decrementOp (.reg .c) s
/-- INX D (R188). -/
def execInxD (s : State) : Out := inxOp .de s
/-- INR D (R184). -/
def execInrD (s : State) : Out := incrementOp (.reg .d) s
/-- DCR D (R186). -/
def execDcrD (s : State) : Out := decrementOp (.reg .d) s
/-- DAD D (R190). -/
def execDadD (s : State) : Out := dadOp .de s
/-- DCX D (R189). -/
def execDcxD (s : State) : Out := dcxOp .de s
/-- INR E (R184). -/
def execInrE (s : State) : Out := incrementOp (.reg .e) s
/-- DCR E (R186). -/
def execDcrE (s : State) : Out := decrementOp (.reg .e) s
/-- INX H (R188). -/
def execInxH (s : State) : Out := inxOp .hl s
/-- INR H (R184). -/
def execInrH (s : State) : Out := incrementOp (.reg .h) s
/-- DCR H (R186). -/
def execDcrH (s : State) : Out := decrementOp (.reg .h) s
/-- DAA (R191). -/
def execDaa (s : State) : Out := daaOp s
/-- DAD H (R190). -/
def execDadH (s : State) : Out := dadOp .hl s
/-- DCX H (R189). -/
def execDcxH (s : State) : Out := dcxOp .hl s
/-- INR L (R184). -/
def execInrL (s : State) : Out := incrementOp (.reg .l) s
/-- DCR L (R186). -/
def execDcrL (s : State) : Out := decrementOp (.reg .l) s
/-- INX SP (R188). -/
def execInxSP (s : State) : Out := inxOp .sp s
/-- INR M (R185). -/
def execInrM (s : State) : Out := incrementOp .m s
/-- DCR M (R187). -/
def execDcrM (s : State) : Out := decrementOp .m s
/-- DAD SP (R190). -/
def execDadSP (s : State) : Out := dadOp .sp s
/-- DCX SP (R189). -/
def execDcxSP (s : State) : Out := dcxOp .sp s
/-- INR A (R184). -/
def execInrA (s : State) : Out := incrementOp (.reg .a) s
/-- DCR A (R186). -/
def execDcrA (s : State) : Out := decrementOp (.reg .a) s
/-- ADD B (R172). -/
def execAddB (s : State) : Out := aluOperandOp .add (.reg .b) s
/-- ADD C (R172). -/
def execAddC (s : State) : Out := aluOperandOp .add (.reg .c) s
/-- ADD D (R172). -/
def execAddD (s : State) : Out := aluOperandOp .add (.reg .d) s
/-- ADD E (R172). -/
def execAddE (s : State) : Out := aluOperandOp .add (.reg .e) s
/-- ADD H (R172). -/
def execAddH (s : State) : Out := aluOperandOp .add (.reg .h) s
/-- ADD L (R172). -/
def execAddL (s : State) : Out := aluOperandOp .add (.reg .l) s
/-- ADD M (R173). -/
def execAddM (s : State) : Out := aluOperandOp .add .m s
/-- ADD A (R172). -/
def execAddA (s : State) : Out := aluOperandOp .add (.reg .a) s
/-- ADC B (R175). -/
def execAdcB (s : State) : Out := aluOperandOp .adc (.reg .b) s
/-- ADC C (R175). -/
def execAdcC (s : State) : Out := aluOperandOp .adc (.reg .c) s
/-- ADC D (R175). -/
def execAdcD (s : State) : Out := aluOperandOp .adc (.reg .d) s
/-- ADC E (R175). -/
def execAdcE (s : State) : Out := aluOperandOp .adc (.reg .e) s
/-- ADC H (R175). -/
def execAdcH (s : State) : Out := aluOperandOp .adc (.reg .h) s
/-- ADC L (R175). -/
def execAdcL (s : State) : Out := aluOperandOp .adc (.reg .l) s
/-- ADC M (R176). -/
def execAdcM (s : State) : Out := aluOperandOp .adc .m s
/-- ADC A (R175). -/
def execAdcA (s : State) : Out := aluOperandOp .adc (.reg .a) s
/-- SUB B (R178). -/
def execSubB (s : State) : Out := aluOperandOp .sub (.reg .b) s
/-- SUB C (R178). -/
def execSubC (s : State) : Out := aluOperandOp .sub (.reg .c) s
/-- SUB D (R178). -/
def execSubD (s : State) : Out := aluOperandOp .sub (.reg .d) s
/-- SUB E (R178). -/
def execSubE (s : State) : Out := aluOperandOp .sub (.reg .e) s
/-- SUB H (R178). -/
def execSubH (s : State) : Out := aluOperandOp .sub (.reg .h) s
/-- SUB L (R178). -/
def execSubL (s : State) : Out := aluOperandOp .sub (.reg .l) s
/-- SUB M (R179). -/
def execSubM (s : State) : Out := aluOperandOp .sub .m s
/-- SUB A (R178). -/
def execSubA (s : State) : Out := aluOperandOp .sub (.reg .a) s
/-- SBB B (R181). -/
def execSbbB (s : State) : Out := aluOperandOp .sbb (.reg .b) s
/-- SBB C (R181). -/
def execSbbC (s : State) : Out := aluOperandOp .sbb (.reg .c) s
/-- SBB D (R181). -/
def execSbbD (s : State) : Out := aluOperandOp .sbb (.reg .d) s
/-- SBB E (R181). -/
def execSbbE (s : State) : Out := aluOperandOp .sbb (.reg .e) s
/-- SBB H (R181). -/
def execSbbH (s : State) : Out := aluOperandOp .sbb (.reg .h) s
/-- SBB L (R181). -/
def execSbbL (s : State) : Out := aluOperandOp .sbb (.reg .l) s
/-- SBB M (R182). -/
def execSbbM (s : State) : Out := aluOperandOp .sbb .m s
/-- SBB A (R181). -/
def execSbbA (s : State) : Out := aluOperandOp .sbb (.reg .a) s
/-- ADI d8 (R174). -/
def execAdi (v : Byte) (s : State) : Out := aluImmediateOp .add v s
/-- ACI d8 (R177). -/
def execAci (v : Byte) (s : State) : Out := aluImmediateOp .adc v s
/-- SUI d8 (R180). -/
def execSui (v : Byte) (s : State) : Out := aluImmediateOp .sub v s
/-- SBI d8 (R183). -/
def execSbi (v : Byte) (s : State) : Out := aluImmediateOp .sbb v s

end Sys2Proof.Machine
end

