-- ==== Sys2Proof/Machine/Logical.lean ====
section
/-! DEFINITION. Logical, compare, rotate and flag instructions (spec 42_logical.md R210 to R229). -/

namespace Sys2Proof.Machine

/-- RLC (R223). -/
def rlcOp (s : State) : Out := accStep rlcByte s

/-- RRC (R224). -/
def rrcOp (s : State) : Out := accStep rrcByte s

/-- RAL (R225). -/
def ralOp (s : State) : Out := accStep ralByte s

/-- RAR (R226). -/
def rarOp (s : State) : Out := accStep rarByte s

/-- CMA (R227): no flag changes. -/
def cmaOp (s : State) : Out := .next (s.setReg .a (~~~s.a))

/-- CMC (R228). -/
def cmcOp (s : State) : Out := .next (s.setFlags { s.flags with cy := !s.flags.cy })

/-- STC (R229). -/
def stcOp (s : State) : Out := .next (s.setFlags { s.flags with cy := true })

/-! One meaning per instruction, named after its constructor. -/

/-- RLC (R223). -/
def execRlc (s : State) : Out := rlcOp s
/-- RRC (R224). -/
def execRrc (s : State) : Out := rrcOp s
/-- RAL (R225). -/
def execRal (s : State) : Out := ralOp s
/-- RAR (R226). -/
def execRar (s : State) : Out := rarOp s
/-- CMA (R227). -/
def execCma (s : State) : Out := cmaOp s
/-- STC (R229). -/
def execStc (s : State) : Out := stcOp s
/-- CMC (R228). -/
def execCmc (s : State) : Out := cmcOp s
/-- ANA B (R211). -/
def execAnaB (s : State) : Out := aluOperandOp .ana (.reg .b) s
/-- ANA C (R211). -/
def execAnaC (s : State) : Out := aluOperandOp .ana (.reg .c) s
/-- ANA D (R211). -/
def execAnaD (s : State) : Out := aluOperandOp .ana (.reg .d) s
/-- ANA E (R211). -/
def execAnaE (s : State) : Out := aluOperandOp .ana (.reg .e) s
/-- ANA H (R211). -/
def execAnaH (s : State) : Out := aluOperandOp .ana (.reg .h) s
/-- ANA L (R211). -/
def execAnaL (s : State) : Out := aluOperandOp .ana (.reg .l) s
/-- ANA M (R212). -/
def execAnaM (s : State) : Out := aluOperandOp .ana .m s
/-- ANA A (R211). -/
def execAnaA (s : State) : Out := aluOperandOp .ana (.reg .a) s
/-- XRA B (R214). -/
def execXraB (s : State) : Out := aluOperandOp .xra (.reg .b) s
/-- XRA C (R214). -/
def execXraC (s : State) : Out := aluOperandOp .xra (.reg .c) s
/-- XRA D (R214). -/
def execXraD (s : State) : Out := aluOperandOp .xra (.reg .d) s
/-- XRA E (R214). -/
def execXraE (s : State) : Out := aluOperandOp .xra (.reg .e) s
/-- XRA H (R214). -/
def execXraH (s : State) : Out := aluOperandOp .xra (.reg .h) s
/-- XRA L (R214). -/
def execXraL (s : State) : Out := aluOperandOp .xra (.reg .l) s
/-- XRA M (R215). -/
def execXraM (s : State) : Out := aluOperandOp .xra .m s
/-- XRA A (R214). -/
def execXraA (s : State) : Out := aluOperandOp .xra (.reg .a) s
/-- ORA B (R217). -/
def execOraB (s : State) : Out := aluOperandOp .ora (.reg .b) s
/-- ORA C (R217). -/
def execOraC (s : State) : Out := aluOperandOp .ora (.reg .c) s
/-- ORA D (R217). -/
def execOraD (s : State) : Out := aluOperandOp .ora (.reg .d) s
/-- ORA E (R217). -/
def execOraE (s : State) : Out := aluOperandOp .ora (.reg .e) s
/-- ORA H (R217). -/
def execOraH (s : State) : Out := aluOperandOp .ora (.reg .h) s
/-- ORA L (R217). -/
def execOraL (s : State) : Out := aluOperandOp .ora (.reg .l) s
/-- ORA M (R218). -/
def execOraM (s : State) : Out := aluOperandOp .ora .m s
/-- ORA A (R217). -/
def execOraA (s : State) : Out := aluOperandOp .ora (.reg .a) s
/-- CMP B (R220). -/
def execCmpB (s : State) : Out := aluOperandOp .cmp (.reg .b) s
/-- CMP C (R220). -/
def execCmpC (s : State) : Out := aluOperandOp .cmp (.reg .c) s
/-- CMP D (R220). -/
def execCmpD (s : State) : Out := aluOperandOp .cmp (.reg .d) s
/-- CMP E (R220). -/
def execCmpE (s : State) : Out := aluOperandOp .cmp (.reg .e) s
/-- CMP H (R220). -/
def execCmpH (s : State) : Out := aluOperandOp .cmp (.reg .h) s
/-- CMP L (R220). -/
def execCmpL (s : State) : Out := aluOperandOp .cmp (.reg .l) s
/-- CMP M (R221). -/
def execCmpM (s : State) : Out := aluOperandOp .cmp .m s
/-- CMP A (R220). -/
def execCmpA (s : State) : Out := aluOperandOp .cmp (.reg .a) s
/-- ANI d8 (R213). -/
def execAni (v : Byte) (s : State) : Out := aluImmediateOp .ana v s
/-- XRI d8 (R216). -/
def execXri (v : Byte) (s : State) : Out := aluImmediateOp .xra v s
/-- ORI d8 (R219). -/
def execOri (v : Byte) (s : State) : Out := aluImmediateOp .ora v s
/-- CPI d8 (R222). -/
def execCpi (v : Byte) (s : State) : Out := aluImmediateOp .cmp v s

end Sys2Proof.Machine
end

