-- ==== Sys2Proof/Machine/Ports.lean ====
section
/-! DEFINITION. The port space and the shift-register device (spec 20_memory.md R95, R96,
60_exceptions.md R330 to R333). -/

namespace Sys2Proof.Machine

/-- `ShiftFill(v)` (R330): the new byte becomes the high byte, the old high byte the low byte. -/
def shiftFill (s : State) (v : Byte) : State :=
  s.setShift ((s.shift >>> 8) ||| (v.setWidth 16 <<< 8))

/-- `ShiftSetOffset(v)` (R331): the low three bits of the byte. -/
def shiftSetOffset (s : State) (v : Byte) : State := s.setShiftOff (v.setWidth 3)

/-- `ShiftResult()` (R332). -/
def shiftResult (s : State) : Byte := (s.shift >>> (8 - s.shiftOff.toNat)).setWidth 8

/-- `PortIn(p)` (R95): the byte read, and the state after: a draw of the oracle is used up. -/
def portIn (s : State) (p : Byte) : Byte × State :=
  if p = s.cfg.resultPort then (shiftResult s, s)
  else
    match s.cfg.inputHandler with
    | .absent => (0, s)
    | .oracle => (Config.inputOracle s.inputDraws p, s.setInputDraws (s.inputDraws + 1))

/-- `PortOut(p, v)` (R96): the fill port is tested first. -/
def portOut (s : State) (p v : Byte) : State :=
  if p = s.cfg.fillPort then shiftFill s v
  else if p = s.cfg.offsetPort then shiftSetOffset s v
  else s.setOutputs (s.outputs ++ [{ port := p, value := v }])

end Sys2Proof.Machine
end

