-- ==== Sys2Proof/Machine/StackIo.lean ====
section
/-! DEFINITION. Stack, I/O and machine control (spec 44_stack_io_machine.md R280 to R291). -/

namespace Sys2Proof.Machine

/-- PUSH rp (R280). -/
def pushOp (rp : RegPair) (s : State) : Out := push16 s (s.pair rp) .next

/-- PUSH PSW (R281): A and the packed flags. -/
def pushPswOp (s : State) : Out := push16 s (joinBytes s.a (packFlags s.flags)) .next

/-- POP rp (R282). -/
def popOp (rp : RegPair) (s : State) : Out := pop16 s fun v s1 => .next (s1.setPair rp v)

/-- POP PSW (R283). -/
def popPswOp (s : State) : Out :=
  pop16 s fun v s1 => .next ((s1.setFlags (unpackFlags (lowByte v))).setReg .a (highByte v))

/-- XTHL (R284): two reads, then two writes, then HL. -/
def xthlOp (s : State) : Out :=
  readThen s s.sp fun lo =>
    readThen s (s.sp + 1) fun hi =>
      writeThen s s.sp s.l fun s1 =>
        writeThen s1 (s.sp + 1) s.h fun s2 => .next ((s2.setReg .l lo).setReg .h hi)

/-- SPHL (R285). -/
def sphlOp (s : State) : Out := .next (s.setSp s.hl)

/-- IN (R286). -/
def inOp (p : Byte) (s : State) : Out := .next ((portIn s p).2.setReg .a (portIn s p).1)

/-- OUT (R287). -/
def outOp (p : Byte) (s : State) : Out := .next (portOut s p s.a)

/-- EI (R288): with `EI_DELAY` = 1 it also opens the shadow. -/
def eiOp (s : State) : Out :=
  .next (if s.cfg.eiDelay then (s.setInte true).setEiShadow true else s.setInte true)

/-- DI (R289). -/
def diOp (s : State) : Out := .next (s.setInte false)

/-- HLT (R290). -/
def hltOp (s : State) : Out := .next (s.setHalt true)

/-- NOP (R291). -/
def nopOp (s : State) : Out := .next s

/-! One meaning per instruction, named after its constructor. -/

/-- NOP (R291). -/
def execNop (s : State) : Out := nopOp s
/-- HLT (R290). -/
def execHlt (s : State) : Out := hltOp s
/-- POP B (R282). -/
def execPopB (s : State) : Out := popOp .bc s
/-- PUSH B (R280). -/
def execPushB (s : State) : Out := pushOp .bc s
/-- POP D (R282). -/
def execPopD (s : State) : Out := popOp .de s
/-- OUT d8 (R287). -/
def execOutPort (v : Byte) (s : State) : Out := outOp v s
/-- PUSH D (R280). -/
def execPushD (s : State) : Out := pushOp .de s
/-- IN d8 (R286). -/
def execInPort (v : Byte) (s : State) : Out := inOp v s
/-- POP H (R282). -/
def execPopH (s : State) : Out := popOp .hl s
/-- XTHL (R284). -/
def execXthl (s : State) : Out := xthlOp s
/-- PUSH H (R280). -/
def execPushH (s : State) : Out := pushOp .hl s
/-- POP PSW (R283). -/
def execPopPSW (s : State) : Out := popPswOp s
/-- DI (R289). -/
def execDi (s : State) : Out := diOp s
/-- PUSH PSW (R281). -/
def execPushPSW (s : State) : Out := pushPswOp s
/-- SPHL (R285). -/
def execSphl (s : State) : Out := sphlOp s
/-- EI (R288). -/
def execEi (s : State) : Out := eiOp s

end Sys2Proof.Machine
end

