-- ==== Sys2Proof/Machine/Branch.lean ====
section
/-! DEFINITION. Jumps, calls, returns and restarts (spec 43_branch.md R250 to R257). PC already holds the
address of the next instruction (R125). -/

namespace Sys2Proof.Machine

/-- JMP (R250). -/
def jmpOp (w : Word) (s : State) : Out := .next (s.setPc w)

/-- CALL (R252). -/
def callOp (w : Word) (s : State) : Out := push16 s s.pc fun s1 => .next (s1.setPc w)

/-- Jcc (R251). -/
def jumpIfOp (cc : Cond) (w : Word) (s : State) : Out :=
  if condHolds s.flags cc then jmpOp w s else .next s

/-- Ccc (R253): not taken, the stack is not touched. -/
def callIfOp (cc : Cond) (w : Word) (s : State) : Out :=
  if condHolds s.flags cc then callOp w s else .next s

/-- Rcc (R255): not taken, nothing is read. -/
def returnIfOp (cc : Cond) (s : State) : Out :=
  if condHolds s.flags cc then retOp s else .next s

/-- RST (R256): a call of `8 * n`; INTE is neither tested nor changed. -/
def rstOp (n : BitVec 3) (s : State) : Out := callOp (restartTarget n) s

/-- PCHL (R257). -/
def pchlOp (s : State) : Out := .next (s.setPc s.hl)

/-! One meaning per instruction, named after its constructor. -/

/-- RNZ (R255). -/
def execRnz (s : State) : Out := returnIfOp .nz s
/-- JNZ a16 (R251). -/
def execJnz (w : Word) (s : State) : Out := jumpIfOp .nz w s
/-- JMP a16 (R250). -/
def execJmp (w : Word) (s : State) : Out := jmpOp w s
/-- CNZ a16 (R253). -/
def execCnz (w : Word) (s : State) : Out := callIfOp .nz w s
/-- RST 0 (R256). -/
def execRst0 (s : State) : Out := rstOp 0 s
/-- RZ (R255). -/
def execRz (s : State) : Out := returnIfOp .z s
/-- RET (R254). -/
def execRet (s : State) : Out := retOp s
/-- JZ a16 (R251). -/
def execJz (w : Word) (s : State) : Out := jumpIfOp .z w s
/-- CZ a16 (R253). -/
def execCz (w : Word) (s : State) : Out := callIfOp .z w s
/-- CALL a16 (R252). -/
def execCall (w : Word) (s : State) : Out := callOp w s
/-- RST 1 (R256). -/
def execRst1 (s : State) : Out := rstOp 1 s
/-- RNC (R255). -/
def execRnc (s : State) : Out := returnIfOp .nc s
/-- JNC a16 (R251). -/
def execJnc (w : Word) (s : State) : Out := jumpIfOp .nc w s
/-- CNC a16 (R253). -/
def execCnc (w : Word) (s : State) : Out := callIfOp .nc w s
/-- RST 2 (R256). -/
def execRst2 (s : State) : Out := rstOp 2 s
/-- RC (R255). -/
def execRc (s : State) : Out := returnIfOp .c s
/-- JC a16 (R251). -/
def execJc (w : Word) (s : State) : Out := jumpIfOp .c w s
/-- CC a16 (R253). -/
def execCc (w : Word) (s : State) : Out := callIfOp .c w s
/-- RST 3 (R256). -/
def execRst3 (s : State) : Out := rstOp 3 s
/-- RPO (R255). -/
def execRpo (s : State) : Out := returnIfOp .po s
/-- JPO a16 (R251). -/
def execJpo (w : Word) (s : State) : Out := jumpIfOp .po w s
/-- CPO a16 (R253). -/
def execCpo (w : Word) (s : State) : Out := callIfOp .po w s
/-- RST 4 (R256). -/
def execRst4 (s : State) : Out := rstOp 4 s
/-- RPE (R255). -/
def execRpe (s : State) : Out := returnIfOp .pe s
/-- PCHL (R257). -/
def execPchl (s : State) : Out := pchlOp s
/-- JPE a16 (R251). -/
def execJpe (w : Word) (s : State) : Out := jumpIfOp .pe w s
/-- CPE a16 (R253). -/
def execCpe (w : Word) (s : State) : Out := callIfOp .pe w s
/-- RST 5 (R256). -/
def execRst5 (s : State) : Out := rstOp 5 s
/-- RP (R255). -/
def execRp (s : State) : Out := returnIfOp .p s
/-- JP a16 (R251). -/
def execJp (w : Word) (s : State) : Out := jumpIfOp .p w s
/-- CP a16 (R253). -/
def execCp (w : Word) (s : State) : Out := callIfOp .p w s
/-- RST 6 (R256). -/
def execRst6 (s : State) : Out := rstOp 6 s
/-- RM (R255). -/
def execRm (s : State) : Out := returnIfOp .m s
/-- JM a16 (R251). -/
def execJm (w : Word) (s : State) : Out := jumpIfOp .m w s
/-- CM a16 (R253). -/
def execCm (w : Word) (s : State) : Out := callIfOp .m w s
/-- RST 7 (R256). -/
def execRst7 (s : State) : Out := rstOp 7 s

end Sys2Proof.Machine
end

