-- ==== Sys2Proof/Machine/Undocumented.lean ====
section
/-! DEFINITION. The twelve undocumented opcodes (spec 44_stack_io_machine.md R293): fatal under
`UNDOC_POLICY = fault`, and under `alias` the documented instruction 8080 silicon runs for each. -/

namespace Sys2Proof.Machine

/-- The policy's choice. Under `fault` the record holds the opcode and `pc0`, its address: PC has been
advanced by the declared size. -/
def undocumented (op : Byte) (size : Word) (aliased : Out) (s : State) : Out :=
  match s.cfg.undocPolicy with
  | .fault => raise s (.unimplementedOpcode op (s.pc - size))
  | .aliased => aliased

/-- 0x08 to 0x38, which act as NOP. -/
def undocNop (op : Byte) (s : State) : Out := undocumented op 1 (.next s) s

/-- 0xCB, which acts as JMP. -/
def undocJmp (op : Byte) (w : Word) (s : State) : Out := undocumented op 3 (jmpOp w s) s

/-- 0xD9, which acts as RET. -/
def undocRet (op : Byte) (s : State) : Out := undocumented op 1 (retOp s) s

/-- 0xDD, 0xED and 0xFD, which act as CALL. -/
def undocCall (op : Byte) (w : Word) (s : State) : Out := undocumented op 3 (callOp w s) s

/-! One meaning per instruction, named after its constructor. -/

/-- undocumented 0x08 (R293). -/
def execUndoc08 (s : State) : Out := undocNop 0x08 s
/-- undocumented 0x10 (R293). -/
def execUndoc10 (s : State) : Out := undocNop 0x10 s
/-- undocumented 0x18 (R293). -/
def execUndoc18 (s : State) : Out := undocNop 0x18 s
/-- undocumented 0x20 (R293). -/
def execUndoc20 (s : State) : Out := undocNop 0x20 s
/-- undocumented 0x28 (R293). -/
def execUndoc28 (s : State) : Out := undocNop 0x28 s
/-- undocumented 0x30 (R293). -/
def execUndoc30 (s : State) : Out := undocNop 0x30 s
/-- undocumented 0x38 (R293). -/
def execUndoc38 (s : State) : Out := undocNop 0x38 s
/-- undocumented 0xCB (R293). -/
def execUndocCB (w : Word) (s : State) : Out := undocJmp 0xCB w s
/-- undocumented 0xD9 (R293). -/
def execUndocD9 (s : State) : Out := undocRet 0xD9 s
/-- undocumented 0xDD (R293). -/
def execUndocDD (w : Word) (s : State) : Out := undocCall 0xDD w s
/-- undocumented 0xED (R293). -/
def execUndocED (w : Word) (s : State) : Out := undocCall 0xED w s
/-- undocumented 0xFD (R293). -/
def execUndocFD (w : Word) (s : State) : Out := undocCall 0xFD w s

end Sys2Proof.Machine
end

