-- ==== Sys2Proof/Machine/Engine.lean ====
section
/-! DEFINITION. One step of the execution engine (spec 30_encoding.md R125 to R127,
44_stack_io_machine.md R292, 60_exceptions.md R310, R326). -/

namespace Sys2Proof.Machine

/-- PC past the instruction (R125), and the bookkeeping before the operation (R326): EISHADOW is cleared,
and an interrupt held over from it leaves PENDING. No operation reads PENDING, so this may stand before
the operation, and a faulting operation has then dropped the interrupt (DEDUCED, unsafe:
notes/assumptions/7.md). -/
def beginOperation (i : Instr) (s : State) : State :=
  ((s.setPc (s.pc + BitVec.ofNat 16 i.size)).setEiShadow false).setPending
    (if s.eiShadow = true then none else s.pending)

/-- The interrupt held over from the EI shadow that this step ends (R326). -/
def heldInterrupt (s : State) : Option (BitVec 3) := if s.eiShadow = true then s.pending else none

/-- The bookkeeping after the operation (R326): the held interrupt is accepted if INTE is 1, else
dropped; the step reports `cycles` and the cost of the acceptance. -/
def endOperation (held : Option (BitVec 3)) (cycles : Nat) (s : State) : StepOut :=
  match held with
  | none => .next (s, cycles)
  | some n =>
    if s.inte = true then
      match accept n s with
      | .next (s1, extra) => .next (s1, cycles + extra)
      | .fault f => .fault f
      | .refused r => .refused r
    else .next (s, cycles)

/-- The step of a fetched instruction: the operation, then the bookkeeping after it. -/
def runInstr (i : Instr) (s : State) : StepOut :=
  let s1 := beginOperation i s
  match exec i s1 with
  | .next s2 => endOperation (heldInterrupt s) (instrCycles i s1) s2
  | .fault f => .fault f
  | .refused r => .refused r

/-- `Step()` (R125, R292, R310): the next state and the cycles it reports. A faulted machine takes no
step: it answers the fault it holds. A halted machine fetches nothing and only lets time pass. -/
def engineStep (s : State) : StepOut :=
  match s.fault with
  | some r => raise s r
  | none =>
    if s.halt = true then .next (s, s.cfg.haltIdleCycles)
    else
      match fetch s with
      | .error r => raise s r
      | .ok i => runInstr i s

end Sys2Proof.Machine
end

