-- ==== Sys2Proof/Machine/Scheduler.lean ====
section
/-! DEFINITION. The frame and interrupt scheduler (spec 60_exceptions.md R340 to R346). -/

namespace Sys2Proof.Machine

/-- `CPF`, cycles per frame (R340). -/
def frameCycles (cfg : Config) : Nat := cfg.clockHz / cfg.refreshHz

/-- `CPS`, cycles per scanline (R341). -/
def scanlineCycles (cfg : Config) : Nat := frameCycles cfg / cfg.displayHeight

/-- The current scanline (R341). -/
def scanline (s : State) : Nat := s.cyc / scanlineCycles s.cfg

/-- `CYC <- CYC + n` for the cycles a step or an offer reports, and on from there. -/
def charge (o : StepOut) (k : State → Out) : Out :=
  match o with
  | .next (s, n) => k (s.setCyc (s.cyc + n))
  | .fault f => .fault f
  | .refused r => .refused r

/-- The mid-frame offer (R342, R343): once per frame, at the first boundary at or past `MID_SCANLINE`. -/
def midFrameOffer (s : State) (k : State → Out) : Out :=
  if s.midFired = false ∧ s.cfg.midScanline ≤ scanline s then
    charge (interrupt 1 (s.setMidFired true)) k
  else k s

/-- The counters of a new frame (R342, R345): the cycles past the budget are carried over. -/
def startFrame (s : State) : State :=
  ((s.setCyc (s.cyc - frameCycles s.cfg)).setMidFired false).setFrame (s.frame + 1)

/-- The end of a frame (R342, R344): where the budget is used up, vector 2 is offered and the next frame
starts. -/
def endOfFrame (s : State) : Out :=
  if frameCycles s.cfg ≤ s.cyc then charge (interrupt 2 s) fun s1 => .next (startFrame s1)
  else .next s

/-- The boundary after a step of the engine (R342): its cycles are added, then the two offers. -/
def boundary (o : StepOut) : Out := charge o fun s1 => midFrameOffer s1 endOfFrame

/-- The body of RunFrame's loop with what follows the loop (R342): while the budget lasts and RUNNING is
1, one step of the engine and the boundary after it; with the budget used up, only the end of the frame;
paused, nothing. A faulted machine answers its fault (R310). -/
def frameStep (s : State) : Out :=
  match s.fault with
  | some r => raise s r
  | none =>
    if s.cyc < frameCycles s.cfg ∧ s.running = true then boundary (engineStep s) else endOfFrame s

end Sys2Proof.Machine
end

