-- ==== Sys2Proof/Machine/Step.lean ====
section
/-! DEFINITION. The machine's step: one pass of the frame scheduler's loop (Machine/Scheduler.lean), and
where an instruction is put for the next step to run it. -/

namespace Sys2Proof.Machine

/-- One step of the machine (spec 00_scope.md R7, 60_exceptions.md R342; DESIGN CHOICE, safe:
notes/assumptions/9.md). -/
def step (s : State) : Host.Outcome State Fault Refusal := frameStep s

/-- `s` with the instruction whose bits are `w` at PC, as construction puts the ROM image there
(DESIGN CHOICE, safe: notes/assumptions/8.md), and whatever keeps the next step from fetching taken
away: FAULT, HALT, a pause, a used-up frame. -/
def State.withFetchWord (s : State) (nbits w : Nat) : State :=
  let put := fun (s : State) (k : Nat) =>
    loadByte s (s.pc + BitVec.ofNat 16 k) ((tableBytes nbits w).getD k 0)
  ((((put (put (put s 0) 1) 2).setFault none).setHalt false).setRunning true).setCyc
    (if s.cyc < frameCycles s.cfg then s.cyc else 0)

end Sys2Proof.Machine
end

