-- ==== Sys2Proof/WellFormed.lean ====
section
/-! DEFINITION. What is checked of the parameters (spec 20_memory.md R75, 00_scope.md R9,
60_exceptions.md R341, 70_reset_and_hazards.md R382). An instruction needs no check of its own: its
operands are a byte or a word by type, every opcode has one size, and every term of `Instr` is
well-formed (R110, R113, R114). -/

namespace Sys2Proof

/-- The first machine address past the chunk, as a number that may be 0x10000. -/
def Chunk.stop (ch : Chunk) : Nat := ch.start.toNat + ch.len

/-- No machine address lies in both chunks (R75 a). -/
def Chunk.disjoint (x y : Chunk) : Bool :=
  decide (min x.stop y.stop ≤ max x.start.toNat y.start.toNat)

/-- R75 b and c, of one chunk: it stays in the store, and in the 16-bit address space. -/
def Chunk.fits (storeSize : Nat) (ch : Chunk) : Bool :=
  decide (ch.phys + ch.len ≤ storeSize) && decide (ch.stop ≤ 0x10000)

/-- R75 a, of a list of chunks. -/
def chunksDisjoint : List Chunk → Bool
  | [] => true
  | ch :: rest => rest.all ch.disjoint && chunksDisjoint rest

/-- R75: a well-formed `CHUNK_MAP`. -/
def Config.mapWellFormed (cfg : Config) : Bool :=
  chunksDisjoint cfg.chunkMap && cfg.chunkMap.all (Chunk.fits cfg.storeSize)

/-- The ranges R9 gives the scheduler's parameters, and R341: a scanline takes at least one cycle. -/
def Config.schedulerWellFormed (cfg : Config) : Bool :=
  decide (0 < cfg.clockHz) && decide (0 < cfg.refreshHz) && decide (0 < cfg.haltIdleCycles) &&
    decide (0 < cfg.midScanline) && decide (cfg.midScanline < cfg.displayHeight) &&
    decide (cfg.displayHeight ≤ cfg.clockHz / cfg.refreshHz)

/-- R382: every entry of the cycle table is positive; a table of one's own has a row per opcode. -/
def CycleTable.wellFormed : CycleTable → Bool
  | .official => true
  | .flat cost => decide (0 < cost)
  | .table rows => decide (rows.length = 256) && rows.all fun r => decide (0 < r.1) && decide (0 < r.2)

/-- A configuration the spec gives a meaning to. -/
def Config.wellFormed (cfg : Config) : Bool :=
  cfg.mapWellFormed && cfg.schedulerWellFormed && cfg.cycleTable.wellFormed

end Sys2Proof
end

