-- ==== Sys2Proof/Machine/HostMoves.lean ====
section
/-! DEFINITION. What the host may do to a machine between steps (spec 60_exceptions.md R352,
70_reset_and_hazards.md R370 to R373, 20_memory.md R99). Nothing else is a move of the host's. -/

namespace Sys2Proof.Machine

/-! ## Construction -/

/-- Bytes at rising physical offsets from `base` on. -/
def placeBytes : Nat → List Byte → Memory → Memory
  | _, [], m => m
  | base, v :: rest, m => placeBytes (base + 1) rest (Memory.write m base v)

/-- The first physical offset past the ROM image (R371). -/
def romSize : Nat := 0x2000

/-- The RAM part of a draw: its cells past the ROM image and inside the store (R58). -/
def placeRam (storeSize : Nat) (cells : Memory) : Memory :=
  cells.foldl
    (fun m x => if romSize ≤ x.1 ∧ x.1 < storeSize then Memory.write m x.1 x.2 else m) []

/-- Construction (R370 to R372): four ROM files of 2048 bytes each and a well-formed map, or no machine. A
`STORE_SIZE` below the image's 8192 bytes is not refused: the image is placed whole, past the store's end,
where no access reaches it (DESIGN CHOICE, unsafe: notes/assumptions/17.md). -/
def construct (files : List (List Byte)) (cfg : Config) (draw : ResetDraw) (running : Bool) :
    Option State :=
  if files.length = 4 ∧ (∀ f ∈ files, f.length = 2048) ∧ cfg.mapWellFormed = true then
    some (State.constructed cfg draw
      (placeBytes 0 files.flatten (placeRam cfg.storeSize draw.ram)) running)
  else none

/-! ## Running -/

/-- RUNNING is written by the host alone (R55, R349). -/
def hostSetRunning (s : State) (v : Bool) : State := s.setRunning v

/-- A single step (R352): one `Step()`, no interrupt offer, the reported cycles not charged (DESIGN
CHOICE, unsafe: notes/assumptions/15.md). -/
def hostSingleStep (s : State) : Out :=
  match engineStep s with
  | .next (s1, _) => .next s1
  | .fault f => .fault f
  | .refused r => .refused r

/-- The loop of RunFrame (R342), for at most `fuel` passes. -/
def frameLoop : Nat → State → Out
  | 0, s => .next s
  | fuel + 1, s =>
    if s.cyc < frameCycles s.cfg ∧ s.running = true then
      charge (engineStep s) fun s1 => midFrameOffer s1 (frameLoop fuel)
    else .next s

/-- `RunFrame()` (R342). With every cost at least 1 a frame takes at most CPF steps (R382), so that much
fuel never cuts it short. -/
def hostRunFrame (s : State) : Out :=
  match s.fault with
  | some r => raise s r
  | none =>
    match frameLoop (frameCycles s.cfg) s with
    | .next s1 => endOfFrame s1
    | .fault f => .fault f
    | .refused r => .refused r

/-! ## Probing -/

/-- `ProbeRead(a)` (R99). -/
def probeRead (s : State) (addr : Word) : Option Byte :=
  match memRead s addr with
  | .ok v => some v
  | .error _ => none

/-- `ProbeWrite(a, v)` (R99): the state, and whether the write succeeded. A host may use it only before
the first step of a run (R352; DESIGN CHOICE, safe: notes/assumptions/16.md). -/
def probeWrite (s : State) (addr : Word) (v : Byte) : State × Bool :=
  match resolveWrite s.cfg addr with
  | .found off =>
    if off < s.cfg.storeSize then (s.setStore (Memory.write s.store off v), true) else (s, false)
  | .rejected => (s, false)
  | .notFound => (s, false)

/-! ## Queries -/

/-- The opcode byte at an address, if it can be read (R352). -/
def probeOpcode (s : State) (addr : Word) : Option Byte := probeRead s addr

/-- The declared size of the instruction at an address: the opcode byte alone fixes it (R110, R352). -/
def probeSize (s : State) (addr : Word) : Option Nat :=
  (probeOpcode s addr).map fun op => (rowOf op).size

/-- The little-endian word at an address, if both its bytes can be read. -/
def probeWord (s : State) (addr : Word) : Option Word :=
  match probeRead s addr, probeRead s (addr + 1) with
  | some lo, some hi => some (joinBytes hi lo)
  | _, _ => none

/-- A CALL variant: CALL or Ccc (R352; DEDUCED, safe: notes/assumptions/14.md). -/
def isCallVariant (op : Byte) : Bool := decide (op = 0xCD) || isCallIf op

/-- A return variant: RET or Rcc (R352; DEDUCED, safe: notes/assumptions/14.md). -/
def isReturnVariant (op : Byte) : Bool := decide (op = 0xC9) || isReturnIf op

/-- A jump with its target in the instruction: JMP or Jcc, `11CCC010` (R121). -/
def isJumpVariant (op : Byte) : Bool :=
  decide (op = 0xC3) || decide (op.extractLsb' 6 2 = 0b11 ∧ op.extractLsb' 0 3 = 0b010)

/-- The three unconditional forms, JMP, CALL and RET. -/
def branchesAlways (op : Byte) : Bool := decide (op = 0xC3 ∨ op = 0xCD ∨ op = 0xC9)

/-- Whether the jump, call or return of an opcode would branch under these flags (R45, R352). -/
def branchesUnder (f : Flags) (op : Byte) : Bool :=
  (isJumpVariant op || isCallVariant op || isReturnVariant op) &&
    (branchesAlways op || condHolds f (condOfCode (op.extractLsb' 3 3)))

/-- Whether the opcode at an address is a CALL variant (R352). -/
def callVariantAt (s : State) (addr : Word) : Option Bool := (probeOpcode s addr).map isCallVariant

/-- Whether the opcode at an address is a return variant (R352). -/
def returnVariantAt (s : State) (addr : Word) : Option Bool := (probeOpcode s addr).map isReturnVariant

/-- Whether the instruction at an address would branch under the current flags (R352). -/
def wouldBranchAt (s : State) (addr : Word) : Option Bool :=
  (probeOpcode s addr).map (branchesUnder s.flags)

/-- The target of the jump, call or return at an address (R352): its a16, or the word at SP. -/
def branchTargetAt (s : State) (addr : Word) : Option Word :=
  match probeOpcode s addr with
  | none => none
  | some op =>
    if isReturnVariant op then probeWord s s.sp
    else if isJumpVariant op || isCallVariant op then probeWord s (addr + 1)
    else none

end Sys2Proof.Machine
end

