-- ==== Sys2Proof/Safety.lean ====
section
/-! DEFINITION. What counts as a safe state and a safe run, in the terms the claims use. -/

namespace Sys2Proof.Machine

/-- Every byte the store lists lies inside it (R57). -/
abbrev storeInside (s : State) : Prop := ∀ x ∈ s.store, x.1 < s.cfg.storeSize

/-- The EI shadow (R50, R326): with `EI_DELAY` = 0 neither EISHADOW nor PENDING is ever set, PENDING holds
something only under EISHADOW, and a halted machine has no shadow. -/
abbrev shadowRule (s : State) : Prop :=
  (s.cfg.eiDelay = false → s.eiShadow = false) ∧ (s.eiShadow = false → s.pending = none) ∧
    (s.halt = true → s.eiShadow = false)

/-- The state a machine is in between two steps, from reset on. -/
abbrev State.Inv (s : State) : Prop :=
  Memory.wf s.store ∧ storeInside s ∧ shadowRule s ∧ s.fault = none ∧ s.dip = s.cfg.dipSwitches

/-- One step of the machine completes. -/
def stepCompletes (s : State) : Prop := ∃ s', step s = .next s'

/-- The first `n` steps complete: no fault is reached (R310). -/
def safeFor : Nat → State → Prop
  | 0, _ => True
  | n + 1, s => ∃ s', step s = .next s' ∧ safeFor n s'

end Sys2Proof.Machine
end

