-- ==== Sys2Proof/Certificates/Slice0/Obligations.lean ====
section
/-! DEFINITION. The statements for the provers, each from the numbered rules of spec/. The words they
share stand first; an instruction's operation runs in a state whose PC is past the instruction
(spec 30_encoding.md R125). -/

open Sys2Proof Sys2Proof.Machine

namespace Sys2Proof.Claims

/-- A write of `addr` goes to the byte at physical offset `off` (R77, R78). -/
def ramAt (s : State) (addr : Word) (off : Nat) : Prop :=
  resolveWrite s.cfg addr = .found off ∧ off < s.cfg.storeSize

/-- The flags of a result byte with a given carry and auxiliary carry (R40). -/
def resultFlags (r : Byte) (cy ac : Bool) : Flags :=
  { s := r.getLsbD 7, z := decide (r = 0), ac := ac, p := decide (popcount r % 2 = 0), cy := cy }

/-- `i` is a form of the ALU operation `op` whose operand has the value `v` in `s`: register, memory
(readable) or immediate. -/
def aluForm (op : AluOp) (s : State) (v : Byte) (i : Instr) : Prop :=
  (∃ r, i = .aluReg op r ∧ v = s.reg r) ∨ (i = .aluM op ∧ memRead s s.hl = .ok v) ∨ i = .aluImm op v

/-- The store after the two writes of a push of `v` to the offsets of SP-1 and SP-2 (R84). -/
def pushedStore (s : State) (hiOff loOff : Nat) (v : Word) : Memory :=
  Memory.write (Memory.write s.store hiOff (highByte v)) loOff (lowByte v)

/-- The stack takes a push: SP-1 and SP-2 are in RAM, at these offsets. -/
def pushReady (s : State) (hiOff loOff : Nat) : Prop :=
  ramAt s (s.sp - 1) hiOff ∧ ramAt s (s.sp - 2) loOff

/-- The stack gives a pop: SP and SP+1 are readable, and hold these bytes. -/
def popReady (s : State) (lo hi : Byte) : Prop :=
  memRead s s.sp = .ok lo ∧ memRead s (s.sp + 1) = .ok hi

/-- A read of `addr` raises `r` (R80, R78). -/
def readFault (s : State) (addr : Word) (r : FaultRecord) : Prop :=
  (resolveRead s.cfg addr = none ∧ r = .unmappedRead addr) ∨
    ∃ off, resolveRead s.cfg addr = some off ∧ s.cfg.storeSize ≤ off ∧
      r = .physicalOffsetOutOfRange addr

/-- A write of `addr` raises `r` (R81, R78). -/
def writeFault (s : State) (addr : Word) (r : FaultRecord) : Prop :=
  (resolveWrite s.cfg addr = .notFound ∧ r = .unmappedWrite addr) ∨
    (resolveWrite s.cfg addr = .rejected ∧ s.cfg.romWritePolicy = .fault ∧ r = .romWrite addr) ∨
    ∃ off, resolveWrite s.cfg addr = .found off ∧ s.cfg.storeSize ≤ off ∧
      r = .physicalOffsetOutOfRange addr

/-- A write of `v` to `addr` that raises nothing leaves `s'`: the byte is stored, or the write is to ROM
and ignored (R81). -/
def writeLeaves (s : State) (addr : Word) (v : Byte) (s' : State) : Prop :=
  (∃ off, ramAt s addr off ∧ s' = { s with store := Memory.write s.store off v }) ∨
    (resolveWrite s.cfg addr = .rejected ∧ s.cfg.romWritePolicy = .ignore ∧ s' = s)

/-- A push of `v` that raises nothing leaves `s'` (R84): `highByte v` written at SP-1, then `lowByte v` at
SP-2, each stored or ignored in ROM, and SP down by 2. -/
def pushLeaves (s : State) (v : Word) (s' : State) : Prop :=
  ∃ s1 s2, writeLeaves s (s.sp - 1) (highByte v) s1 ∧ writeLeaves s1 (s.sp - 2) (lowByte v) s2 ∧
    s' = { s2 with sp := s.sp - 2 }

/-- `i` pushes the word `v` in `s`: PUSH, CALL, Ccc taken, RST, and the undocumented opcodes that run as
CALL (R84, R280, R281, R252, R253, R256, R293). -/
def pushForm (s : State) (v : Word) (i : Instr) : Prop :=
  (i = .pushB ∧ v = s.pair .bc) ∨ (i = .pushD ∧ v = s.pair .de) ∨ (i = .pushH ∧ v = s.pair .hl) ∨
    (i = .pushPSW ∧ v = s.a ++ packFlags s.flags) ∨
    (v = s.pc ∧ ((∃ w, i = .call w) ∨ (∃ n, i = .rst n) ∨
      (∃ cc w, i = .callIf cc w ∧ condHolds s.flags cc = true) ∨
      s.cfg.undocPolicy = .aliased ∧ ∃ w, i ∈ [.undocDD w, .undocED w, .undocFD w]))

/-- `i` pops a word in `s`: POP, RET, Rcc taken, and the undocumented opcode that runs as RET (R85, R282,
R283, R254, R255, R293). -/
def popForm (s : State) (i : Instr) : Prop :=
  i ∈ [.popB, .popD, .popH, .popPSW, .ret] ∨
    (∃ cc, i = .returnIf cc ∧ condHolds s.flags cc = true) ∨
    (s.cfg.undocPolicy = .aliased ∧ i = .undocD9)

/-- `i` reads the byte at `addr` before anything else of its operation: MOV r,M, the ALU forms with M,
INR M, DCR M, LDA, LDAX, and LHLD with its first byte. -/
def loadForm (s : State) (addr : Word) (i : Instr) : Prop :=
  (addr = s.pair .hl ∧ ((∃ r, i = .movFromM r) ∨ (∃ op, i = .aluM op) ∨ i = .inrM ∨ i = .dcrM)) ∨
    i = .lda addr ∨ (i = .ldaxB ∧ addr = s.pair .bc) ∨ (i = .ldaxD ∧ addr = s.pair .de) ∨
    i = .lhld addr

/-- `i` stores the one byte `v` at `addr`: MOV M,r, MVI M, STA and STAX. -/
def storeForm (s : State) (addr : Word) (v : Byte) (i : Instr) : Prop :=
  (addr = s.pair .hl ∧ ((∃ r, i = .movToM r ∧ v = s.reg r) ∨ i = .mviM v)) ∨
    (v = s.a ∧ (i = .sta addr ∨ (i = .staxB ∧ addr = s.pair .bc) ∨
      (i = .staxD ∧ addr = s.pair .de)))

/-- Field QQ, bits 7:6 (R112). -/
def fieldQ (op : Byte) : Nat := op.toNat / 64
/-- Field DDD, CCC, AAA or NNN, bits 5:3 (R112). -/
def fieldY (op : Byte) : Nat := op.toNat / 8 % 8
/-- Field SSS, bits 2:0 (R112). -/
def fieldZ (op : Byte) : Nat := op.toNat % 8
/-- Field RP, bits 5:4 (R112). -/
def fieldP (op : Byte) : Nat := op.toNat / 16 % 4

/-- The register is one of the pair of a code (R34), SP having none. -/
def inPair (rp : Nat) : Reg8 → Bool
  | .b => decide (rp = 0)
  | .c => decide (rp = 0)
  | .d => decide (rp = 1)
  | .e => decide (rp = 1)
  | .h => decide (rp = 2)
  | .l => decide (rp = 2)
  | .a => false

/-- The table of R36, column "written by": the opcode is of an instruction that writes the register. -/
def mayWriteReg (op : Byte) (r : Reg8) : Bool :=
  match fieldQ op with
  | 0 =>
    match fieldZ op with
    | 1 => if fieldY op % 2 = 0 then inPair (fieldP op) r else inPair 2 r
    | 2 => (decide (op = 0x0A ∨ op = 0x1A ∨ op = 0x3A) && decide (r = .a)) ||
        (decide (op = 0x2A) && inPair 2 r)
    | 3 => inPair (fieldP op) r
    | 4 => decide (fieldY op = (regCode r).toNat)
    | 5 => decide (fieldY op = (regCode r).toNat)
    | 6 => decide (fieldY op = (regCode r).toNat)
    | 7 => decide (fieldY op < 6) && decide (r = .a)
    | _ => false
  | 1 => decide (fieldY op = (regCode r).toNat)
  | 2 => decide (fieldY op ≠ 7) && decide (r = .a)
  | _ =>
    match fieldZ op with
    | 1 =>
      if fieldY op % 2 = 0 then
        if fieldP op = 3 then decide (r = .a) else inPair (fieldP op) r
      else false
    | 3 => (decide (op = 0xDB) && decide (r = .a)) || (decide (op = 0xE3) && inPair 2 r) ||
        (decide (op = 0xEB) && (inPair 1 r || inPair 2 r))
    | 6 => decide (fieldY op ≠ 7) && decide (r = .a)
    | _ => false

/-- R37: the opcode is of an instruction that writes SP. LXI SP, INX SP, DCX SP, SPHL, PUSH, POP, CALL,
Ccc, RET, Rcc and RST; the undocumented 0xD9, 0xDD, 0xED and 0xFD run as RET and CALL under `alias`. -/
def mayWriteSp (op : Byte) : Bool :=
  decide (op = 0x31 ∨ op = 0x33 ∨ op = 0x3B) ||
    (decide (fieldQ op = 3) &&
      (decide (fieldZ op = 0 ∨ fieldZ op = 4 ∨ fieldZ op = 5 ∨ fieldZ op = 7) ||
        (decide (fieldZ op = 1) && decide (op ≠ 0xE9))))

/-- R38, R258: the opcode is of an instruction that may transfer control. -/
def mayWritePc (op : Byte) : Bool :=
  decide (fieldQ op = 3) &&
    (decide (fieldZ op = 0 ∨ fieldZ op = 2 ∨ fieldZ op = 4 ∨ fieldZ op = 7) ||
      decide (op = 0xC3 ∨ op = 0xCB ∨ op = 0xC9 ∨ op = 0xD9 ∨ op = 0xE9 ∨ op = 0xCD ∨ op = 0xDD ∨
        op = 0xED ∨ op = 0xFD))

/-- R43, column CY: the opcode is of an instruction that writes CY. -/
def mayWriteCy (op : Byte) : Bool :=
  decide (fieldQ op = 2) || decide (fieldQ op = 3 ∧ fieldZ op = 6) || decide (op = 0xF1) ||
    decide (fieldQ op = 0 ∧ fieldZ op = 1 ∧ fieldY op % 2 = 1) ||
    (decide (fieldQ op = 0 ∧ fieldZ op = 7) && decide (op ≠ 0x2F))

/-- R43, columns Z, S, P and AC, which the table gives to the same instructions. -/
def mayWriteZsp (op : Byte) : Bool :=
  decide (fieldQ op = 2) || decide (fieldQ op = 3 ∧ fieldZ op = 6) || decide (op = 0xF1) ||
    decide (op = 0x27) || decide (fieldQ op = 0 ∧ (fieldZ op = 4 ∨ fieldZ op = 5))

/-- The addresses a push writes (R84). -/
def pushAddresses (s : State) : List Word := [s.sp - 1, s.sp - 2]

/-- R86: the machine addresses an instruction stores to; `_` stores nothing. -/
def storeAddresses (i : Instr) (s : State) : List Word :=
  match i with
  | .movMB | .movMC | .movMD | .movME | .movMH | .movML | .movMA => [s.hl]
  | .mviM _ => [s.hl]
  | .inrM | .dcrM => [s.hl]
  | .sta w => [w]
  | .staxB => [s.pair .bc]
  | .staxD => [s.pair .de]
  | .shld w => [w, w + 1]
  | .xthl => [s.sp, s.sp + 1]
  | .pushB | .pushD | .pushH | .pushPSW => pushAddresses s
  | .call _ => pushAddresses s
  | .rst0 | .rst1 | .rst2 | .rst3 | .rst4 | .rst5 | .rst6 | .rst7 => pushAddresses s
  | .cnz _ => if condHolds s.flags .nz then pushAddresses s else []
  | .cz _ => if condHolds s.flags .z then pushAddresses s else []
  | .cnc _ => if condHolds s.flags .nc then pushAddresses s else []
  | .cc _ => if condHolds s.flags .c then pushAddresses s else []
  | .cpo _ => if condHolds s.flags .po then pushAddresses s else []
  | .cpe _ => if condHolds s.flags .pe then pushAddresses s else []
  | .cp _ => if condHolds s.flags .p then pushAddresses s else []
  | .cm _ => if condHolds s.flags .m then pushAddresses s else []
  | .undocDD _ | .undocED _ | .undocFD _ =>
    if s.cfg.undocPolicy = .aliased then pushAddresses s else []
  | _ => []

/-- The two digits of a packed decimal byte. -/
def isDecimal (v : Byte) : Prop := v.toNat % 16 ≤ 9 ∧ v.toNat / 16 ≤ 9

/-- The number a packed decimal byte stands for. -/
def decimalValue (v : Byte) : Nat := 10 * (v.toNat / 16) + v.toNat % 16

end Sys2Proof.Claims

open Sys2Proof.Claims

/-! ## Encoding -/

/-- Decoding an encoded instruction gives it back, with whatever bytes follow left over (R110, R111,
R113, R114, R117). -/
def Obligations.DecodeOfEncode : Prop :=
  ∀ (i : Instr) (rest : List Byte), decode (encode i ++ rest) = .ok (i, rest)

/-- What the decoder reads is what the encoder writes: no word has two meanings (R117, R123). -/
def Obligations.EncodeOfDecode : Prop :=
  ∀ (bytes : List Byte) (i : Instr) (rest : List Byte),
    decode bytes = .ok (i, rest) → bytes = encode i ++ rest

/-- R110, R124: every byte is an opcode, of one size from 1 to 3, and the opcode alone fixes it. -/
def Obligations.OpcodeFixesLength : Prop :=
  (∀ (op x y : Byte) (rest : List Byte), ∃ i rest', decode (op :: x :: y :: rest) = .ok (i, rest') ∧
      i.opcode = op ∧ i.size = (rowOf op).size ∧ 1 ≤ i.size ∧ i.size ≤ 3) ∧
    ∀ i j : Instr, i.opcode = j.opcode → i.size = j.size

/-- R112, R118 to R121: the opcode bytes of every form with a field, assembled from the field codes of
R32, R34, R45 and R112; the pair code 11 of PUSH and POP is PSW. -/
def Obligations.FieldPatterns : Prop :=
  ∀ (rd rs : Reg8) (rp : RegPair) (cc : Cond) (op : AluOp) (n : Fin 8) (v : Byte) (w : Word),
    (Instr.movReg rd rs).opcode = 0b01#2 ++ operandCode (.reg rd) ++ operandCode (.reg rs) ∧
    (Instr.movFromM rd).opcode = 0b01#2 ++ operandCode (.reg rd) ++ operandCode .m ∧
    (Instr.movToM rs).opcode = 0b01#2 ++ operandCode .m ++ operandCode (.reg rs) ∧
    (Instr.mviReg rd v).opcode = 0b00#2 ++ operandCode (.reg rd) ++ 0b110#3 ∧
    (Instr.mviM v).opcode = 0b00#2 ++ operandCode .m ++ 0b110#3 ∧
    (Instr.inr rd).opcode = 0b00#2 ++ operandCode (.reg rd) ++ 0b100#3 ∧
    Instr.inrM.opcode = 0b00#2 ++ operandCode .m ++ 0b100#3 ∧
    (Instr.dcr rd).opcode = 0b00#2 ++ operandCode (.reg rd) ++ 0b101#3 ∧
    Instr.dcrM.opcode = 0b00#2 ++ operandCode .m ++ 0b101#3 ∧
    (Instr.lxi rp w).opcode = 0b00#2 ++ pairCode rp ++ 0b0001#4 ∧
    (Instr.inx rp).opcode = 0b00#2 ++ pairCode rp ++ 0b0011#4 ∧
    (Instr.dcx rp).opcode = 0b00#2 ++ pairCode rp ++ 0b1011#4 ∧
    (Instr.dad rp).opcode = 0b00#2 ++ pairCode rp ++ 0b1001#4 ∧
    (Instr.aluReg op rs).opcode = 0b10#2 ++ aluCode op ++ operandCode (.reg rs) ∧
    (Instr.aluM op).opcode = 0b10#2 ++ aluCode op ++ operandCode .m ∧
    (Instr.aluImm op v).opcode = 0b11#2 ++ aluCode op ++ 0b110#3 ∧
    (Instr.jumpIf cc w).opcode = 0b11#2 ++ condCode cc ++ 0b010#3 ∧
    (Instr.callIf cc w).opcode = 0b11#2 ++ condCode cc ++ 0b100#3 ∧
    (Instr.returnIf cc).opcode = 0b11#2 ++ condCode cc ++ 0b000#3 ∧
    (Instr.rst n).opcode = 0b11#2 ++ BitVec.ofNat 3 n.val ++ 0b111#3 ∧
    Instr.staxB.opcode = 0b00#2 ++ pairCode .bc ++ 0b0010#4 ∧
    Instr.staxD.opcode = 0b00#2 ++ pairCode .de ++ 0b0010#4 ∧
    Instr.ldaxB.opcode = 0b00#2 ++ pairCode .bc ++ 0b1010#4 ∧
    Instr.ldaxD.opcode = 0b00#2 ++ pairCode .de ++ 0b1010#4 ∧
    Instr.pushB.opcode = 0b11#2 ++ pairCode .bc ++ 0b0101#4 ∧
    Instr.pushD.opcode = 0b11#2 ++ pairCode .de ++ 0b0101#4 ∧
    Instr.pushH.opcode = 0b11#2 ++ pairCode .hl ++ 0b0101#4 ∧
    Instr.pushPSW.opcode = 0b11#2 ++ 0b11#2 ++ 0b0101#4 ∧
    Instr.popB.opcode = 0b11#2 ++ pairCode .bc ++ 0b0001#4 ∧
    Instr.popD.opcode = 0b11#2 ++ pairCode .de ++ 0b0001#4 ∧
    Instr.popH.opcode = 0b11#2 ++ pairCode .hl ++ 0b0001#4 ∧
    Instr.popPSW.opcode = 0b11#2 ++ 0b11#2 ++ 0b0001#4

/-- Ten words of the spec and what each decodes to: 0x48 from R140, 0xA6 from R212, the others as
95_test_vectors.md has them. -/
def Obligations.SpecWordsDecode : Prop :=
  decode [0x48] = .ok (.movCB, []) ∧ decode [0x76] = .ok (.hlt, []) ∧
    decode [0x31, 0x00, 0x24] = .ok (.lxiSP 0x2400, []) ∧
    decode [0xC6, 0x80] = .ok (.adi 0x80, []) ∧ decode [0xA6] = .ok (.anaM, []) ∧
    decode [0xCA, 0x00, 0x21] = .ok (.jz 0x2100, []) ∧ decode [0xFF] = .ok (.rst7, []) ∧
    decode [0xDB, 0x03] = .ok (.inPort 0x03, []) ∧ decode [0xF1] = .ok (.popPSW, []) ∧
    decode [0xDD, 0x00, 0x30] = .ok (.undocDD 0x3000, [])

/-! ## Reset and construction -/

/-- R58, R371, R372: construction succeeds exactly on four files of 2048 bytes and a well-formed map, and
leaves every piece of state at its value in the table of R58: the draws at the draw's values, the ROM
part at the files' bytes, the RAM part at the draw's. That this is so of a STORE_SIZE below 8192 too is the
model's choice (notes/assumptions/17.md). -/
def Obligations.ConstructionLeaves : Prop :=
  ∀ (files : List (List Byte)) (cfg : Config) (draw : ResetDraw) (running : Bool),
    ((construct files cfg draw running).isSome = true ↔
      files.length = 4 ∧ (∀ f ∈ files, f.length = 2048) ∧ cfg.mapWellFormed = true) ∧
    ∀ s, construct files cfg draw running = some s →
      s.cfg = cfg ∧ s.pc = 0x0000 ∧ s.inte = false ∧ s.halt = false ∧ s.eiShadow = false ∧
      s.pending = none ∧ s.a = draw.a ∧ s.b = draw.b ∧ s.c = draw.c ∧ s.d = draw.d ∧ s.e = draw.e ∧
      s.h = draw.h ∧ s.l = draw.l ∧ s.sp = draw.sp ∧ s.flags = draw.flags ∧ s.shift = 0x0000 ∧
      s.shiftOff = 0 ∧ s.dip = cfg.dipSwitches ∧ s.cyc = 0 ∧ s.midFired = false ∧ s.frame = 0 ∧
      s.running = running ∧ s.fault = none ∧
      (∀ k < 0x2000, Memory.read s.store k = files.flatten.getD k 0) ∧
      (Memory.wf draw.ram → ∀ k, 0x2000 ≤ k → k < cfg.storeSize →
        Memory.read s.store k = Memory.read draw.ram k)

/-- The invariant of `StepKeepsInvariant` holds after reset. The register, RAM and parameter values of
`State.reset` are the model's choice (notes/assumptions/3.md to 6.md); nothing here rests on them. -/
def Obligations.ResetMeetsInvariant : Prop := State.reset.Inv

/-! ## What every step keeps -/

/-- Every completed step keeps the invariant: the store in canonical form and inside its size (R57), the
EI shadow's rule (R50, R326), no fault (R56, R310), DIP as configured (R53, R375). -/
def Obligations.StepKeepsInvariant : Prop :=
  ∀ s s' : State, s.Inv → step s = .next s' → s'.Inv

/-- The parameters are not state (10_state.md): no step changes them, completed or faulted; nor RUNNING,
which only the host writes (R55). -/
def Obligations.StepKeepsParameters : Prop :=
  ∀ s : State,
    (∀ s', step s = .next s' → s'.cfg = s.cfg ∧ s'.running = s.running ∧ s'.dip = s.dip) ∧
    ∀ f, step s = .fault f →
      f.final.cfg = s.cfg ∧ f.final.running = s.running ∧ f.final.dip = s.dip

/-- R77, R81, R377: a byte of the store that no address writes to (the ROM part, under the default map)
is never changed, by a completed or by a faulted step. -/
def Obligations.RomNeverChanges : Prop :=
  ∀ (s : State) (k : Nat), (∀ addr, resolveWrite s.cfg addr ≠ .found k) →
    (∀ s', step s = .next s' → Memory.read s'.store k = Memory.read s.store k) ∧
    ∀ f, step s = .fault f → Memory.read f.final.store k = Memory.read s.store k

/-- R56, R310: a fault sets FAULT in the final state, and a machine with FAULT set takes no further step
and accepts no interrupt. That a further step answers the same fault again is the model's way of taking no
step (DEDUCED, notes/assumptions/11.md). -/
def Obligations.FaultIsTerminal : Prop :=
  (∀ (s : State) (f : Fault), step s = .fault f →
      f.final.fault ≠ none ∧ step f.final = .fault f ∧ engineStep f.final = .fault f) ∧
    ∀ (s : State) (n : Nat), s.fault ≠ none → n < 8 → interrupt n s = .next (s, 0)

/-! ## Registers and flags -/

/-- R31, R35, R37: every data register and SP reads back what was written and keeps every other; a pair
is its two registers, high byte first, and writing either changes it. -/
def Obligations.RegisterFileLaw : Prop :=
  ∀ (s : State) (r r' : Reg8) (rp : RegPair) (v : Byte) (w : Word),
    (s.setReg r v).reg r' = (if r' = r then v else s.reg r') ∧ (s.setReg r v).sp = s.sp ∧
    (s.setPair rp w).pair rp = w ∧
    (∀ rp', rp' ≠ rp → (s.setPair rp w).pair rp' = s.pair rp') ∧ (s.setPair rp w).a = s.a ∧
    (s.setPair .bc w).b = highByte w ∧ (s.setPair .bc w).c = lowByte w ∧
    (s.setPair .de w).d = highByte w ∧ (s.setPair .de w).e = lowByte w ∧
    (s.setPair .hl w).h = highByte w ∧ (s.setPair .hl w).l = lowByte w ∧
    (s.pair .bc).toNat = s.b.toNat * 256 + s.c.toNat ∧
    (s.pair .de).toNat = s.d.toNat * 256 + s.e.toNat ∧
    (s.pair .hl).toNat = s.h.toNat * 256 + s.l.toNat

/-- R40: the uniform rule of Z, S and P, with the parity as the sum of the eight bits. -/
def Obligations.ZspRule : Prop :=
  ∀ (f : Flags) (r : Byte),
    zsp f r = { f with
      z := decide (r.toNat = 0)
      s := decide (128 ≤ r.toNat)
      p := decide (((List.range 8).map fun k => r.toNat / 2 ^ k % 2).sum % 2 = 0) }

/-- R46, R47: the layout of the flag byte, the fixed bits, and the two round trips. -/
def Obligations.FlagByteLayout : Prop :=
  (∀ f : Flags,
      (packFlags f).toNat = 128 * f.s.toNat + 64 * f.z.toNat + 16 * f.ac.toNat + 4 * f.p.toNat + 2 +
        f.cy.toNat ∧ unpackFlags (packFlags f) = f) ∧
    ∀ v : Byte,
      unpackFlags v = { s := v.getLsbD 7, z := v.getLsbD 6, ac := v.getLsbD 4, p := v.getLsbD 2,
                        cy := v.getLsbD 0 } ∧
      packFlags (unpackFlags v) = (v &&& 0xD5) ||| 0x02

/-- R36, R37, R38, R258: the frame of the registers, for all 256 instructions. A data register, SP or PC
changes only under an instruction that writes it. -/
def Obligations.RegisterFrame : Prop :=
  ∀ (i : Instr) (s s' : State), exec i s = .next s' →
    (∀ r, mayWriteReg i.opcode r = false → s'.reg r = s.reg r) ∧
    (mayWriteSp i.opcode = false → s'.sp = s.sp) ∧ (mayWritePc i.opcode = false → s'.pc = s.pc)

/-- R43: the frame of the flags, for all 256 instructions. -/
def Obligations.FlagFrame : Prop :=
  ∀ (i : Instr) (s s' : State), exec i s = .next s' →
    (mayWriteCy i.opcode = false → s'.flags.cy = s.flags.cy) ∧
    (mayWriteZsp i.opcode = false →
      s'.flags.z = s.flags.z ∧ s'.flags.s = s.flags.s ∧ s'.flags.p = s.flags.p ∧
        s'.flags.ac = s.flags.ac)

/-- R48 to R56, R95, R96: the frame of everything else, for all 256 instructions. INTE changes only under
EI and DI, HALT only under HLT, EISHADOW only under EI, the shift register and the output events only under
OUT, the count of input draws only under IN, and the rest under none. Two of the fields are the model's own
(DESIGN CHOICE): `inputDraws` for the handler's answers of R95 (notes/assumptions/2.md) and `outputs` for
the events of R96 (notes/assumptions/10.md). -/
def Obligations.ControlFrame : Prop :=
  ∀ (i : Instr) (s s' : State), exec i s = .next s' →
    (i ≠ .ei → i ≠ .di → s'.inte = s.inte) ∧ (i ≠ .hlt → s'.halt = s.halt) ∧
    (i ≠ .ei → s'.eiShadow = s.eiShadow) ∧
    ((∀ p, i ≠ .outPort p) →
      s'.shift = s.shift ∧ s'.shiftOff = s.shiftOff ∧ s'.outputs = s.outputs) ∧
    ((∀ p, i ≠ .inPort p) → s'.inputDraws = s.inputDraws) ∧
    s'.cfg = s.cfg ∧ s'.pending = s.pending ∧ s'.dip = s.dip ∧ s'.cyc = s.cyc ∧
    s'.midFired = s.midFired ∧ s'.frame = s.frame ∧ s'.running = s.running ∧ s'.fault = s.fault

/-- R86: the frame of memory, for all 256 instructions. Every address that does not resolve to a byte the
instruction stores to reads as before. -/
def Obligations.MemoryFrame : Prop :=
  ∀ (i : Instr) (s s' : State), exec i s = .next s' →
    ∀ addr, (∀ x ∈ storeAddresses i s, resolveRead s.cfg addr ≠ resolveRead s.cfg x) →
      memRead s' addr = memRead s addr

/-! ## Memory -/

/-- R76 to R78, R80, R81: what one access does. The first chunk in priority order that covers the address
decides; no covering chunk faults; a write to ROM faults or is ignored, by the policy; an offset past the
store faults. -/
def Obligations.AccessRule : Prop :=
  ∀ (s : State) (addr : Word) (v : Byte),
    ((∀ ch ∈ s.cfg.chunkMap, chunkCovers addr ch = false) →
      memRead s addr = .error (.unmappedRead addr) ∧
        memWrite s addr v = .error (.unmappedWrite addr)) ∧
    ∀ (before after : List Chunk) (ch : Chunk), s.cfg.chunkMap = before ++ ch :: after →
      (∀ x ∈ before, chunkCovers addr x = false) → chunkCovers addr ch = true →
      let off := ch.phys + (addr.toNat - ch.start.toNat)
      memRead s addr =
          (if off < s.cfg.storeSize then .ok (Memory.read s.store off)
            else .error (.physicalOffsetOutOfRange addr)) ∧
        (ch.kind = .ram → memWrite s addr v =
          (if off < s.cfg.storeSize then .ok { s with store := Memory.write s.store off v }
            else .error (.physicalOffsetOutOfRange addr))) ∧
        (ch.kind = .rom → s.cfg.romWritePolicy = .fault →
          memWrite s addr v = .error (.romWrite addr)) ∧
        (ch.kind = .rom → s.cfg.romWritePolicy = .ignore → memWrite s addr v = .ok s)

/-- R79, R92: after a write to RAM every address that resolves to the same byte reads the value written,
and every other address reads as before. -/
def Obligations.ReadAfterWrite : Prop :=
  ∀ (s : State) (addr : Word) (off : Nat) (v : Byte), Memory.wf s.store → ramAt s addr off →
    ∃ s', memWrite s addr v = .ok s' ∧ ∀ b : Word,
      (resolveRead s.cfg b = some off → memRead s' b = .ok v) ∧
      (resolveRead s.cfg b ≠ some off → memRead s' b = memRead s b)

/-- R79, R89: under the default map the RAM at 0x2000 and its mirror at 0x4000 are the same bytes. -/
def Obligations.MirrorLaw : Prop :=
  ∀ (s : State) (addr : Word) (v : Byte), Memory.wf s.store → s.cfg.chunkMap = defaultChunkMap →
    s.cfg.storeSize = 0x4000 → 0x2000 ≤ addr.toNat → addr.toNat < 0x4000 →
    (∃ s', memWrite s (addr + 0x2000) v = .ok s' ∧ memRead s' addr = .ok v) ∧
    ∃ s', memWrite s addr v = .ok s' ∧ memRead s' (addr + 0x2000) = .ok v

/-! ## Data transfer -/

/-- R140 (49 instructions). -/
def Obligations.MovRegisterResult : Prop :=
  ∀ (rd rs : Reg8) (s : State), exec (.movReg rd rs) s = .next (s.setReg rd (s.reg rs))

/-- R82, R141, R146, R148, R150 (11 instructions): a load from readable bytes; LHLD takes L from its
address and H from the next, modulo 2^16. -/
def Obligations.LoadResult : Prop :=
  ∀ (rd : Reg8) (w : Word) (s : State) (v : Byte),
    (memRead s s.hl = .ok v → exec (.movFromM rd) s = .next (s.setReg rd v)) ∧
    (memRead s w = .ok v → exec (.lda w) s = .next { s with a := v }) ∧
    (memRead s (s.pair .bc) = .ok v → exec .ldaxB s = .next { s with a := v }) ∧
    (memRead s (s.pair .de) = .ok v → exec .ldaxD s = .next { s with a := v }) ∧
    ∀ lo hi : Byte, memRead s w = .ok lo → memRead s (w + 1) = .ok hi →
      exec (.lhld w) s = .next { s with h := hi, l := lo }

/-- R83, R142, R144, R147, R149, R151 (12 instructions): a store to bytes of RAM; SHLD puts L at its
address and then H at the next, modulo 2^16. -/
def Obligations.StoreResult : Prop :=
  ∀ (r : Reg8) (v : Byte) (w : Word) (s : State) (off : Nat),
    (ramAt s s.hl off →
      exec (.movToM r) s = .next { s with store := Memory.write s.store off (s.reg r) } ∧
      exec (.mviM v) s = .next { s with store := Memory.write s.store off v }) ∧
    (ramAt s w off → exec (.sta w) s = .next { s with store := Memory.write s.store off s.a }) ∧
    (ramAt s (s.pair .bc) off →
      exec .staxB s = .next { s with store := Memory.write s.store off s.a }) ∧
    (ramAt s (s.pair .de) off →
      exec .staxD s = .next { s with store := Memory.write s.store off s.a }) ∧
    ∀ loOff hiOff : Nat, ramAt s w loOff → ramAt s (w + 1) hiOff →
      exec (.shld w) s =
        .next { s with store := Memory.write (Memory.write s.store loOff s.l) hiOff s.h }

/-- R143, R145, R152, R285 (13 instructions): MVI r, LXI, XCHG and SPHL. -/
def Obligations.ImmediateAndExchangeResult : Prop :=
  ∀ (rd : Reg8) (rp : RegPair) (v : Byte) (w : Word) (s : State),
    exec (.mviReg rd v) s = .next (s.setReg rd v) ∧ exec (.lxi rp w) s = .next (s.setPair rp w) ∧
    exec .xchg s = .next { s with d := s.h, e := s.l, h := s.d, l := s.e } ∧
    exec .sphl s = .next { s with sp := s.pair .hl }

/-! ## Arithmetic and logic -/

/-- R170, with R172 to R177 (18 instructions): ADD and ADC in every operand form. -/
def Obligations.AdditionResult : Prop :=
  ∀ (s : State) (i : Instr) (v : Byte) (cin : Nat),
    (aluForm .add s v i ∧ cin = 0 ∨ aluForm .adc s v i ∧ cin = s.flags.cy.toNat) →
    let sum := s.a.toNat + v.toNat + cin
    let r : Byte := BitVec.ofNat 8 sum
    exec i s = .next { s with
      a := r
      flags := resultFlags r (decide (255 < sum))
        (decide (15 < s.a.toNat % 16 + v.toNat % 16 + cin)) }

/-- R171, with R178 to R183 and R220 to R222 (27 instructions): SUB, SBB and CMP in every operand form; CY
is the borrow, AC the carry out of bit 3 of the complement addition, and CMP does not store. -/
def Obligations.SubtractionResult : Prop :=
  ∀ (op : AluOp) (s : State) (i : Instr) (v : Byte) (bin : Nat), aluForm op s v i →
    (op = .sub ∧ bin = 0 ∨ op = .sbb ∧ bin = s.flags.cy.toNat ∨ op = .cmp ∧ bin = 0) →
    let r : Byte := BitVec.ofNat 8 (s.a.toNat + (255 - v.toNat) + (1 - bin))
    exec i s = .next { s with
      a := if op = .cmp then s.a else r
      flags := resultFlags r (decide (s.a.toNat < v.toNat + bin))
        (decide (15 < s.a.toNat % 16 + (255 - v.toNat) % 16 + (1 - bin))) }

/-- R220 to R222 (9 instructions): what CMP's flags say of A and the operand, nothing else being written. Z says they are equal, CY that the operand is the greater. -/
def Obligations.CompareResult : Prop :=
  ∀ (s : State) (i : Instr) (v : Byte), aluForm .cmp s v i →
    ∃ f : Flags, exec i s = .next { s with flags := f } ∧ (f.z = true ↔ s.a = v) ∧
      (f.cy = true ↔ s.a.toNat < v.toNat) ∧ f.s = (s.a - v).getLsbD 7 ∧
      f.p = decide (popcount (s.a - v) % 2 = 0) ∧ (f.ac = true ↔ v.toNat % 16 ≤ s.a.toNat % 16)

/-- R210, with R211 to R219 (27 instructions): ANA, XRA and ORA in every operand form. -/
def Obligations.LogicalResult : Prop :=
  ∀ (s : State) (i : Instr) (v : Byte),
    (aluForm .ana s v i → exec i s = .next { s with
      a := s.a &&& v, flags := resultFlags (s.a &&& v) false (s.a.getLsbD 3 || v.getLsbD 3) }) ∧
    (aluForm .xra s v i → exec i s = .next { s with
      a := s.a ^^^ v, flags := resultFlags (s.a ^^^ v) false false }) ∧
    (aluForm .ora s v i → exec i s = .next { s with
      a := s.a ||| v, flags := resultFlags (s.a ||| v) false false })

/-- R184, R186 (14 instructions): INR r and DCR r; CY is kept. -/
def Obligations.IncrementRegisterResult : Prop :=
  ∀ (rd : Reg8) (s : State),
    exec (.inr rd) s = .next { s.setReg rd (s.reg rd + 1) with
      flags := resultFlags (s.reg rd + 1) s.flags.cy (decide ((s.reg rd).toNat % 16 = 15)) } ∧
    exec (.dcr rd) s = .next { s.setReg rd (s.reg rd - 1) with
      flags := resultFlags (s.reg rd - 1) s.flags.cy (decide ((s.reg rd).toNat % 16 ≠ 0)) }

/-- R185, R187: INR M and DCR M in RAM; and where the byte can be read but the write faults, the flags
are already written when the machine stops. -/
def Obligations.IncrementMemoryResult : Prop :=
  ∀ (s : State) (v : Byte), memRead s s.hl = .ok v →
    let up := resultFlags (v + 1) s.flags.cy (decide (v.toNat % 16 = 15))
    let down := resultFlags (v - 1) s.flags.cy (decide (v.toNat % 16 ≠ 0))
    (∀ off, ramAt s s.hl off →
      exec .inrM s = .next { s with flags := up, store := Memory.write s.store off (v + 1) } ∧
      exec .dcrM s = .next { s with flags := down, store := Memory.write s.store off (v - 1) }) ∧
    (resolveWrite s.cfg s.hl = .rejected → s.cfg.romWritePolicy = .fault →
      exec .inrM s =
        .fault (.romWrite s.hl { s with flags := up, fault := some (.romWrite s.hl) }) ∧
      exec .dcrM s =
        .fault (.romWrite s.hl { s with flags := down, fault := some (.romWrite s.hl) })) ∧
    (resolveWrite s.cfg s.hl = .rejected → s.cfg.romWritePolicy = .ignore →
      exec .inrM s = .next { s with flags := up } ∧ exec .dcrM s = .next { s with flags := down })

/-- R188, R189, R190 (12 instructions): INX and DCX modulo 2^16 with no flag; DAD into HL with CY the
carry out of bit 15. -/
def Obligations.PairArithmeticResult : Prop :=
  ∀ (rp : RegPair) (s : State),
    exec (.inx rp) s = .next (s.setPair rp (BitVec.ofNat 16 ((s.pair rp).toNat + 1))) ∧
    exec (.dcx rp) s = .next (s.setPair rp (BitVec.ofNat 16 ((s.pair rp).toNat + 0xFFFF))) ∧
    exec (.dad rp) s = .next { s.setPair .hl (s.pair .hl + s.pair rp) with
      flags := { s.flags with
        cy := decide (0xFFFF < (s.pair .hl).toNat + (s.pair rp).toNat) } }

/-- R191: DAA, in the words of its pseudocode. -/
def Obligations.DaaResult : Prop :=
  ∀ s : State,
    let lo := s.a.toNat % 16
    let hi := s.a.toNat / 16
    let low := decide (9 < lo ∨ s.flags.ac = true)
    let high := decide (9 < hi ∨ s.flags.cy = true ∨ (9 ≤ hi ∧ 9 < lo))
    let corr := 6 * low.toNat + 0x60 * high.toNat
    let r : Byte := BitVec.ofNat 8 (s.a.toNat + corr)
    exec .daa s = .next { s with
      a := r
      flags := resultFlags r (high || s.flags.cy) (decide (15 < lo + 6 * low.toNat)) }

/-- R170, R191: ADI followed by DAA adds packed decimal bytes: two digits of the sum in A, the hundred
in CY. -/
def Obligations.DecimalAddition : Prop :=
  ∀ (s s1 s2 : State) (v : Byte), isDecimal s.a → isDecimal v →
    exec (.adi v) s = .next s1 → exec .daa s1 = .next s2 →
    isDecimal s2.a ∧
      decimalValue s2.a + 100 * s2.flags.cy.toNat = decimalValue s.a + decimalValue v

/-- R223 to R229: the rotates, with the value in numbers, and CMA, CMC and STC. -/
def Obligations.RotateAndFlagResult : Prop :=
  ∀ s : State,
    let n := s.a.toNat
    let c := s.flags.cy.toNat
    exec .rlc s = .next { s with
      a := BitVec.ofNat 8 (n * 2 % 256 + n / 128)
      flags := { s.flags with cy := decide (128 ≤ n) } } ∧
    exec .rrc s = .next { s with
      a := BitVec.ofNat 8 (n / 2 + n % 2 * 128)
      flags := { s.flags with cy := decide (n % 2 = 1) } } ∧
    exec .ral s = .next { s with
      a := BitVec.ofNat 8 (n * 2 % 256 + c), flags := { s.flags with cy := decide (128 ≤ n) } } ∧
    exec .rar s = .next { s with
      a := BitVec.ofNat 8 (n / 2 + c * 128), flags := { s.flags with cy := decide (n % 2 = 1) } } ∧
    exec .cma s = .next { s with a := BitVec.ofNat 8 (255 - n) } ∧
    exec .cmc s = .next { s with flags := { s.flags with cy := !s.flags.cy } } ∧
    exec .stc s = .next { s with flags := { s.flags with cy := true } }

/-! ## Branches and the stack -/

/-- R45, R250, R251, R257 (10 instructions): JMP, Jcc taken and not, PCHL. Each condition tests one
flag. -/
def Obligations.JumpResult : Prop :=
  ∀ (w : Word) (s : State),
    exec (.jmp w) s = .next { s with pc := w } ∧ exec .pchl s = .next { s with pc := s.pair .hl } ∧
    exec (.jnz w) s = .next (if s.flags.z = false then { s with pc := w } else s) ∧
    exec (.jz w) s = .next (if s.flags.z = true then { s with pc := w } else s) ∧
    exec (.jnc w) s = .next (if s.flags.cy = false then { s with pc := w } else s) ∧
    exec (.jc w) s = .next (if s.flags.cy = true then { s with pc := w } else s) ∧
    exec (.jpo w) s = .next (if s.flags.p = false then { s with pc := w } else s) ∧
    exec (.jpe w) s = .next (if s.flags.p = true then { s with pc := w } else s) ∧
    exec (.jp w) s = .next (if s.flags.s = false then { s with pc := w } else s) ∧
    exec (.jm w) s = .next (if s.flags.s = true then { s with pc := w } else s)

/-- R81, R84, R252, R253, R256 (17 instructions): CALL, Ccc taken and RST push PC, which holds the return
address, and jump, also where a write of the push is ignored in ROM; Ccc not taken does nothing. -/
def Obligations.CallResult : Prop :=
  ∀ (cc : Cond) (n : Fin 8) (w : Word) (s : State),
    (condHolds s.flags cc = false → exec (.callIf cc w) s = .next s) ∧
    ∀ s1, pushLeaves s s.pc s1 →
      exec (.call w) s = .next { s1 with pc := w } ∧
      (condHolds s.flags cc = true → exec (.callIf cc w) s = .next { s1 with pc := w }) ∧
      exec (.rst n) s = .next { s1 with pc := BitVec.ofNat 16 (8 * n.val) }

/-- R85, R254, R255 (9 instructions): RET and Rcc taken pop PC; Rcc not taken does nothing. -/
def Obligations.ReturnResult : Prop :=
  ∀ (cc : Cond) (s : State),
    (condHolds s.flags cc = false → exec (.returnIf cc) s = .next s) ∧
    ∀ lo hi, popReady s lo hi →
      exec .ret s = .next { s with sp := s.sp + 2, pc := hi ++ lo } ∧
      (condHolds s.flags cc = true →
        exec (.returnIf cc) s = .next { s with sp := s.sp + 2, pc := hi ++ lo })

/-- R81, R84, R85, R280 to R283 (8 instructions): PUSH and POP of a pair and of the PSW. A PUSH completes
also where one of its writes is ignored in ROM. -/
def Obligations.StackTransferResult : Prop :=
  ∀ s : State,
    (∀ s1, (pushLeaves s (s.b ++ s.c) s1 → exec .pushB s = .next s1) ∧
      (pushLeaves s (s.d ++ s.e) s1 → exec .pushD s = .next s1) ∧
      (pushLeaves s (s.h ++ s.l) s1 → exec .pushH s = .next s1) ∧
      (pushLeaves s (s.a ++ packFlags s.flags) s1 → exec .pushPSW s = .next s1)) ∧
    ∀ lo hi, popReady s lo hi →
      exec .popB s = .next { s with b := hi, c := lo, sp := s.sp + 2 } ∧
      exec .popD s = .next { s with d := hi, e := lo, sp := s.sp + 2 } ∧
      exec .popH s = .next { s with h := hi, l := lo, sp := s.sp + 2 } ∧
      exec .popPSW s = .next { s with
        a := hi
        sp := s.sp + 2
        flags := { s := lo.getLsbD 7, z := lo.getLsbD 6, ac := lo.getLsbD 4, p := lo.getLsbD 2,
                   cy := lo.getLsbD 0 } }

/-- R81, R284: XTHL where it completes. L and H, as they were, are written to SP and SP+1, each stored or
ignored in ROM, and the bytes read from there replace them. -/
def Obligations.ExchangeStackResult : Prop :=
  ∀ (s s1 s2 : State) (lo hi : Byte), popReady s lo hi → writeLeaves s s.sp s.l s1 →
    writeLeaves s1 (s.sp + 1) s.h s2 → exec .xthl s = .next { s2 with h := hi, l := lo }

/-- R84, R85, R126, R284, R310: where a push, a pop or XTHL faults, in every form that pushes or pops. A
fault of the first push write changes nothing, one of the second leaves the first as it was done; a fault
of a pop's reads changes nothing. XTHL reads both bytes and then writes L and H; HL is never written when
it faults. SP stays, PC is the advanced PC. -/
def Obligations.StackFaults : Prop :=
  ∀ (s : State) (i : Instr) (v : Word) (r : FaultRecord),
    let stop : Out := .fault (r.toFault { s with fault := some r })
    (pushForm s v i → writeFault s (s.sp - 1) r → exec i s = stop) ∧
    (pushForm s v i → ∀ s1, writeLeaves s (s.sp - 1) (highByte v) s1 → writeFault s (s.sp - 2) r →
      exec i s = .fault (r.toFault { s1 with fault := some r })) ∧
    (popForm s i → readFault s s.sp r → exec i s = stop) ∧
    (popForm s i → ∀ lo, memRead s s.sp = .ok lo → readFault s (s.sp + 1) r → exec i s = stop) ∧
    (readFault s s.sp r → exec .xthl s = stop) ∧
    (∀ lo, memRead s s.sp = .ok lo → readFault s (s.sp + 1) r → exec .xthl s = stop) ∧
    ∀ lo hi, popReady s lo hi →
      (writeFault s s.sp r → exec .xthl s = stop) ∧
      ∀ s1, writeLeaves s s.sp s.l s1 → writeFault s (s.sp + 1) r →
        exec .xthl s = .fault (r.toFault { s1 with fault := some r })

/-- R80, R81, R126, R313 to R316: where a load or a store faults. A fault of the first access changes
nothing; LHLD changes nothing when its second read faults either; SHLD keeps its first write when the
second faults. A write to ROM that `ROM_WRITE_POLICY = ignore` ignores completes and changes nothing. The
faults of the second access of INR M and DCR M are in `IncrementMemoryResult`. -/
def Obligations.LoadStoreFaults : Prop :=
  ∀ (s : State) (i : Instr) (addr : Word) (v : Byte) (r : FaultRecord),
    let stop : Out := .fault (r.toFault { s with fault := some r })
    (loadForm s addr i → readFault s addr r → exec i s = stop) ∧
    (∀ lo, memRead s addr = .ok lo → readFault s (addr + 1) r → exec (.lhld addr) s = stop) ∧
    (storeForm s addr v i → writeFault s addr r → exec i s = stop) ∧
    (storeForm s addr v i → ∀ s1, writeLeaves s addr v s1 → exec i s = .next s1) ∧
    (writeFault s addr r → exec (.shld addr) s = stop) ∧
    ∀ s1, writeLeaves s addr s.l s1 →
      (writeFault s (addr + 1) r →
        exec (.shld addr) s = .fault (r.toFault { s1 with fault := some r })) ∧
      ∀ s2, writeLeaves s1 (addr + 1) s.h s2 → exec (.shld addr) s = .next s2

/-- R258, R282, where SP-1 and SP-2 are different bytes of RAM: a PUSH and then a POP of the same pair
leaves the pair and SP, and a CALL and then a RET (run with any PC) gives back PC and SP; the store is
the old one with the two bytes of the pushed word written, and nothing else has changed. -/
def Obligations.StackRoundTrips : Prop :=
  ∀ (s : State) (w pc : Word) (hiOff loOff : Nat), Memory.wf s.store → pushReady s hiOff loOff →
    hiOff ≠ loOff →
    (∀ p ∈ [(Instr.pushB, Instr.popB, s.pair .bc), (.pushD, .popD, s.pair .de),
        (.pushH, .popH, s.pair .hl), (.pushPSW, .popPSW, s.a ++ packFlags s.flags)],
      ∃ s1, exec p.1 s = .next s1 ∧ s1.sp = s.sp - 2 ∧
        exec p.2.1 s1 = .next { s with store := pushedStore s hiOff loOff p.2.2 }) ∧
    ∃ s1, exec (.call w) s = .next s1 ∧
      exec .ret { s1 with pc := pc } = .next { s with store := pushedStore s hiOff loOff s.pc }

/-! ## Ports and machine control -/

/-- R95, R286, R332: IN from the result port reads the window of the shift register; from any other port
it gives 0 with no handler, and with one the machine goes on whatever byte the handler answers. That the
answer is a free value applied to the count `inputDraws` is the model's choice (notes/assumptions/2.md). -/
def Obligations.InResult : Prop :=
  ∀ (p : Byte) (s : State),
    (p = s.cfg.resultPort → exec (.inPort p) s =
      .next { s with a := BitVec.ofNat 8 (s.shift.toNat / 2 ^ (8 - s.shiftOff.toNat)) }) ∧
    (p ≠ s.cfg.resultPort → s.cfg.inputHandler = .absent →
      exec (.inPort p) s = .next { s with a := 0 }) ∧
    (p ≠ s.cfg.resultPort → s.cfg.inputHandler = .oracle →
      exec (.inPort p) s = .next { s with
        a := Config.inputOracle s.inputDraws p, inputDraws := s.inputDraws + 1 })

/-- R96, R287, R330, R331: OUT to the fill port, to the offset port, and to any other port, in that order.
That the event of R96 is appended to the field `outputs` is the model's choice (notes/assumptions/10.md). -/
def Obligations.OutResult : Prop :=
  ∀ (p : Byte) (s : State),
    (p = s.cfg.fillPort → exec (.outPort p) s =
      .next { s with shift := BitVec.ofNat 16 (s.shift.toNat / 256 + s.a.toNat * 256) }) ∧
    (p ≠ s.cfg.fillPort → p = s.cfg.offsetPort →
      exec (.outPort p) s = .next { s with shiftOff := BitVec.ofNat 3 (s.a.toNat % 8) }) ∧
    (p ≠ s.cfg.fillPort → p ≠ s.cfg.offsetPort →
      exec (.outPort p) s = .next { s with
        outputs := s.outputs ++ [{ port := p, value := s.a }] })

/-- R288 to R291: EI, DI, HLT and NOP. -/
def Obligations.MachineControlResult : Prop :=
  ∀ s : State,
    exec .ei s = .next { s with inte := true, eiShadow := s.eiShadow || s.cfg.eiDelay } ∧
    exec .di s = .next { s with inte := false } ∧ exec .hlt s = .next { s with halt := true } ∧
    exec .nop s = .next s

/-- R293 (12 instructions): the undocumented opcodes stop with their opcode and address under
`UNDOC_POLICY = fault`, and run as NOP, JMP, RET and CALL under `alias`. -/
def Obligations.UndocumentedOpcodes : Prop :=
  ∀ (w : Word) (s : State),
    let nops := [Instr.undoc08, .undoc10, .undoc18, .undoc20, .undoc28, .undoc30, .undoc38]
    let calls := [Instr.undocDD w, .undocED w, .undocFD w]
    (s.cfg.undocPolicy = .fault → ∀ i ∈ nops ++ [.undocCB w, .undocD9] ++ calls,
      let pc0 := s.pc - BitVec.ofNat 16 i.size
      exec i s = .fault (.unimplementedOpcode i.opcode pc0
        { s with fault := some (.unimplementedOpcode i.opcode pc0) })) ∧
    (s.cfg.undocPolicy = .aliased →
      (∀ i ∈ nops, exec i s = .next s) ∧ exec (.undocCB w) s = .next { s with pc := w } ∧
      (∀ lo hi, popReady s lo hi →
        exec .undocD9 s = .next { s with sp := s.sp + 2, pc := hi ++ lo }) ∧
      ∀ s1, pushLeaves s s.pc s1 → ∀ i ∈ calls, exec i s = .next { s1 with pc := w })

/-! ## The engine's step -/

/-- R125, R326: when the bytes at PC decode to an instruction, the step is that instruction's operation
in the state with PC past it and EISHADOW cleared, then the bookkeeping and the scheduler's boundary. That
a held interrupt has left PENDING before the operation runs, and so also when it faults, is the model's
reading of R326 (DEDUCED, notes/assumptions/7.md). -/
def Obligations.StepRunsDecoded : Prop :=
  ∀ (s : State) (i : Instr) (bytes : List Byte), s.fault = none → s.halt = false →
    s.running = true → s.cyc < frameCycles s.cfg → decode bytes = .ok (i, []) →
    (∀ k (hk : k < bytes.length), memRead s (s.pc + BitVec.ofNat 16 k) = .ok bytes[k]) →
    let s1 : State := { s with
      pc := s.pc + BitVec.ofNat 16 bytes.length
      eiShadow := false
      pending := if s.eiShadow = true then none else s.pending }
    step s = boundary (match exec i s1 with
      | .next s2 => endOperation (heldInterrupt s) (instrCycles i s1) s2
      | .fault f => .fault f
      | .refused r => .refused r)

/-- R125, R127, R342, R343: a step whose cycles reach neither the mid-frame threshold nor the end of the
frame is the instruction's operation and its cycles added to CYC, nothing else. -/
def Obligations.StepBetweenOffers : Prop :=
  ∀ (s s2 : State) (i : Instr), s.fault = none → s.halt = false → s.running = true →
    s.eiShadow = false → fetch s = .ok i →
    let s1 : State := { s with pc := s.pc + BitVec.ofNat 16 i.size }
    let cyc := s.cyc + instrCycles i s1
    exec i s1 = .next s2 → cyc < frameCycles s.cfg →
    (s.midFired = true ∨ cyc / scanlineCycles s.cfg < s.cfg.midScanline) →
    step s = .next { s2 with cyc := cyc }

/-- R126, R313: the opcode byte, then every operand byte in address order; the first that cannot be read
stops the step with PC at the instruction and nothing changed, whatever the instruction. -/
def Obligations.FetchFaults : Prop :=
  ∀ (s : State) (op lo : Byte) (r : FaultRecord), s.fault = none → s.halt = false →
    let stop : StepOut := .fault (r.toFault { s with fault := some r })
    (memRead s s.pc = .error r → engineStep s = stop) ∧
    (memRead s s.pc = .ok op → 2 ≤ (rowOf op).size → memRead s (s.pc + 1) = .error r →
      engineStep s = stop) ∧
    (memRead s s.pc = .ok op → (rowOf op).size = 3 → memRead s (s.pc + 1) = .ok lo →
      memRead s (s.pc + 2) = .error r → engineStep s = stop)

/-- R127, R130, R253, R255: the cycles a step reports under the official table, for all 256 instructions
form by form; every cost is from 4 to 18. Any instruction but a conditional call or return counts as
taken (DESIGN CHOICE, notes/assumptions/13.md; the table gives it one cost). -/
def Obligations.OfficialCosts : Prop :=
  ∀ (s : State), s.cfg.cycleTable = .official →
    (∀ i : Instr, 4 ≤ instrCycles i s ∧ instrCycles i s ≤ 18) ∧
    ∀ (rd rs : Reg8) (rp : RegPair) (op : AluOp) (cc : Cond) (n : Fin 8) (v : Byte) (w : Word),
      instrCycles (.movReg rd rs) s = 5 ∧ instrCycles (.movFromM rd) s = 7 ∧
      instrCycles (.movToM rs) s = 7 ∧ instrCycles (.mviReg rd v) s = 7 ∧
      instrCycles (.mviM v) s = 10 ∧ instrCycles (.lxi rp w) s = 10 ∧
      (∀ i ∈ [Instr.lda w, .sta w], instrCycles i s = 13) ∧
      (∀ i ∈ [Instr.lhld w, .shld w], instrCycles i s = 16) ∧
      (∀ i ∈ [Instr.ldaxB, .ldaxD, .staxB, .staxD], instrCycles i s = 7) ∧
      instrCycles (.aluReg op rs) s = 4 ∧ instrCycles (.aluM op) s = 7 ∧
      instrCycles (.aluImm op v) s = 7 ∧ instrCycles (.inr rd) s = 5 ∧ instrCycles (.dcr rd) s = 5 ∧
      (∀ i ∈ [Instr.inrM, .dcrM], instrCycles i s = 10) ∧ instrCycles (.inx rp) s = 5 ∧
      instrCycles (.dcx rp) s = 5 ∧ instrCycles (.dad rp) s = 10 ∧
      (∀ i ∈ [Instr.xchg, .daa, .rlc, .rrc, .ral, .rar, .cma, .stc, .cmc, .ei, .di, .nop],
        instrCycles i s = 4) ∧
      instrCycles (.jumpIf cc w) s = 10 ∧
      instrCycles (.callIf cc w) s = (if condHolds s.flags cc = true then 17 else 11) ∧
      instrCycles (.returnIf cc) s = (if condHolds s.flags cc = true then 11 else 5) ∧
      instrCycles (.rst n) s = 11 ∧
      (∀ i ∈ [Instr.jmp w, .ret, .popB, .popD, .popH, .popPSW, .inPort v, .outPort v],
        instrCycles i s = 10) ∧
      instrCycles (.call w) s = 17 ∧
      (∀ i ∈ [Instr.pushB, .pushD, .pushH, .pushPSW], instrCycles i s = 11) ∧
      (∀ i ∈ [Instr.pchl, .sphl], instrCycles i s = 5) ∧ instrCycles .xthl s = 18 ∧
      instrCycles .hlt s = 7 ∧
      (∀ i ∈ [Instr.undoc08, .undoc10, .undoc18, .undoc20, .undoc28, .undoc30, .undoc38],
        instrCycles i s = 4) ∧
      (∀ i ∈ [Instr.undocCB w, .undocD9], instrCycles i s = 10) ∧
      ∀ i ∈ [Instr.undocDD w, .undocED w, .undocFD w], instrCycles i s = 17

/-- R290, R292, R380: with HALT set and INTE clear the machine never stops, never faults and never runs
an instruction again: after any number of steps only the scheduler's counters differ. -/
def Obligations.HaltedForEver : Prop :=
  ∀ (s : State) (n : Nat), s.fault = none → s.halt = true → s.inte = false →
    engineStep s = .next (s, s.cfg.haltIdleCycles) ∧ ∃ s', Host.Core.run Sys2Proof.core n s = .next s' ∧
      s' = { s with cyc := s'.cyc, midFired := s'.midFired, frame := s'.frame }

/-! ## Interrupts and the scheduler -/

/-- R317, R321 to R323, R325: an offer, in the order of its tests. A bad number faults; a faulted
machine takes nothing; with INTE 0 it is lost; under EISHADOW it is held unless one is held already; else it is accepted. -/
def Obligations.InterruptOffer : Prop :=
  ∀ (n : Nat) (s : State),
    (8 ≤ n → interrupt n s =
      .fault (.badInterruptNumber n { s with fault := some (.badInterruptNumber n) })) ∧
    (n < 8 → s.fault ≠ none → interrupt n s = .next (s, 0)) ∧
    (n < 8 → s.inte = false → interrupt n s = .next (s, 0)) ∧
    (n < 8 → s.fault = none → s.inte = true → s.eiShadow = true → interrupt n s =
      .next ({ s with
        pending := if s.pending = none then some (BitVec.ofNat 3 n) else s.pending }, 0)) ∧
    (n < 8 → s.fault = none → s.inte = true → s.eiShadow = false → interrupt n s =
      accept (BitVec.ofNat 3 n) s)

/-- R81, R84, R324: acceptance clears HALT and INTE, pushes PC and goes to `8 * n` at the cost of 11 cycles,
also where a write of the push is ignored in ROM; if either write faults, HALT and INTE are already cleared,
PC and SP stay, and the first write is left as it was done. -/
def Obligations.InterruptAcceptance : Prop :=
  ∀ (n : BitVec 3) (s : State),
    (∀ s1, pushLeaves s s.pc s1 → accept n s = .next ({ s1 with
      halt := false, inte := false, pc := BitVec.ofNat 16 (8 * n.toNat) }, 11)) ∧
    (∀ r, writeFault s (s.sp - 1) r → accept n s =
      .fault (r.toFault { s with halt := false, inte := false, fault := some r })) ∧
    ∀ s1 r, writeLeaves s (s.sp - 1) (highByte s.pc) s1 → writeFault s (s.sp - 2) r → accept n s =
      .fault (r.toFault { s1 with halt := false, inte := false, fault := some r })

/-- R323, R326: an interrupt held from the EI shadow is accepted after exactly one more instruction, its
cost added to that step's, and dropped if INTE is 0 then (DI). -/
def Obligations.ShadowDelivery : Prop :=
  ∀ (s s2 : State) (i : Instr) (n : BitVec 3), s.fault = none → s.halt = false →
    s.eiShadow = true → s.pending = some n → fetch s = .ok i →
    let s1 : State := { s with
      pc := s.pc + BitVec.ofNat 16 i.size, eiShadow := false, pending := none }
    exec i s1 = .next s2 →
    (s2.inte = false → engineStep s = .next (s2, instrCycles i s1)) ∧
    (s2.inte = true → ∀ s3, pushLeaves s2 s2.pc s3 → engineStep s = .next ({ s3 with
      halt := false, inte := false, pc := BitVec.ofNat 16 (8 * n.toNat) }, instrCycles i s1 + 11))

/-- R325, R342 to R345: the boundary after a step when interrupts are off. Both offers are lost; only the
counters move, and the cycles past the budget are carried into the next frame. -/
def Obligations.BoundaryWithInterruptsOff : Prop :=
  ∀ (s : State) (n : Nat), s.fault = none → s.inte = false →
    let cyc := s.cyc + n
    boundary (.next (s, n)) = .next (
      if frameCycles s.cfg ≤ cyc then
        { s with cyc := cyc - frameCycles s.cfg, midFired := false, frame := s.frame + 1 }
      else { s with
        cyc := cyc
        midFired := s.midFired || decide (s.cfg.midScanline ≤ cyc / scanlineCycles s.cfg) })

/-- R327, R343, R344: the boundary after a step when interrupts are on. At the mid-frame threshold vector
1 is accepted; at the end of the frame, with vector 1 behind, vector 2. Where both offers fall on one
boundary vector 1 is accepted and vector 2 lost; in the EI shadow vector 1 is held and vector 2 lost. -/
def Obligations.BoundaryTakesInterrupt : Prop :=
  ∀ (s : State) (n : Nat), s.fault = none → s.inte = true →
    let cyc := s.cyc + n
    let midReached := s.midFired = false ∧ s.cfg.midScanline ≤ cyc / scanlineCycles s.cfg
    (∀ s1, s.eiShadow = false → pushLeaves s s.pc s1 →
      let taken := fun vector : Word =>
        ({ s1 with halt := false, inte := false, pc := 8 * vector } : State)
      (midReached → cyc + 11 < frameCycles s.cfg →
        boundary (.next (s, n)) = .next { taken 1 with midFired := true, cyc := cyc + 11 }) ∧
      (s.midFired = true → frameCycles s.cfg ≤ cyc →
        boundary (.next (s, n)) = .next { taken 2 with
          midFired := false, cyc := cyc + 11 - frameCycles s.cfg, frame := s.frame + 1 }) ∧
      (midReached → frameCycles s.cfg ≤ cyc + 11 →
        boundary (.next (s, n)) = .next { taken 1 with
          midFired := false, cyc := cyc + 11 - frameCycles s.cfg, frame := s.frame + 1 })) ∧
    (s.eiShadow = true → s.pending = none → midReached → frameCycles s.cfg ≤ cyc →
      boundary (.next (s, n)) = .next { s with
        pending := some 1, midFired := false, cyc := cyc - frameCycles s.cfg, frame := s.frame + 1 })

/-- R347: under parameters in their ranges a frame whose budget is used up has offered vector 1: it was
offered before, or it is offered at that very boundary, before vector 2. -/
def Obligations.MidFrameOfferedByFrameEnd : Prop :=
  ∀ (s : State) (k : State → Out), s.cfg.schedulerWellFormed = true →
    frameCycles s.cfg ≤ s.cyc →
    midFrameOffer s k =
      (if s.midFired = true then k s else charge (interrupt 1 { s with midFired := true }) k)

/-- R340, R345, R348: with the default parameters every completed step leaves CYC below the frame's
33333 cycles. The default parameters are the board's (notes/assumptions/3.md). -/
def Obligations.CyclesStayInFrame : Prop :=
  ∀ s s' : State, s.cfg = defaultConfig → s.cyc < 33333 → step s = .next s' →
    s'.cfg = defaultConfig ∧ s'.cyc < 33333

/-- R342, R382: RunFrame is steps of the machine. Where every cost is positive, a RunFrame that completes is
some number of steps, one after another, and completes one frame, unless the machine is paused: then it
may change nothing. -/
def Obligations.RunFrameIsSteps : Prop :=
  ∀ s s' : State, (∀ op taken, 0 < tableCycles s.cfg.cycleTable op taken) →
    0 < s.cfg.haltIdleCycles → hostRunFrame s = .next s' →
    (∃ k, Host.Core.run Sys2Proof.core k s = .next s') ∧
      (s'.frame = s.frame + 1 ∨ s.running = false ∧ s.cyc < frameCycles s.cfg ∧ s' = s)
end

