-- ==== Sys2Proof/Laws/Forms.lean ====
section
/-! SUPPORT. The 256 instructions by form: a claim about every instruction is a claim about 69 forms, and
each form's meaning is one shared operation. -/

namespace Sys2Proof.Machine

/-- To show something of every instruction, show it of every form. -/
theorem instr_forms {P : Instr → Prop}
    (movReg : ∀ (rd rs : Reg8), P (.movReg rd rs))
    (movFromM : ∀ (rd : Reg8), P (.movFromM rd))
    (movToM : ∀ (rs : Reg8), P (.movToM rs))
    (mviReg : ∀ (rd : Reg8) (v : Byte), P (.mviReg rd v))
    (lxi : ∀ (rp : RegPair) (w : Word), P (.lxi rp w))
    (aluReg : ∀ (op : AluOp) (rs : Reg8), P (.aluReg op rs))
    (aluM : ∀ (op : AluOp), P (.aluM op))
    (aluImm : ∀ (op : AluOp) (v : Byte), P (.aluImm op v))
    (inr : ∀ (rd : Reg8), P (.inr rd))
    (dcr : ∀ (rd : Reg8), P (.dcr rd))
    (inx : ∀ (rp : RegPair), P (.inx rp))
    (dcx : ∀ (rp : RegPair), P (.dcx rp))
    (dad : ∀ (rp : RegPair), P (.dad rp))
    (jumpIf : ∀ (cc : Cond) (w : Word), P (.jumpIf cc w))
    (callIf : ∀ (cc : Cond) (w : Word), P (.callIf cc w))
    (returnIf : ∀ (cc : Cond), P (.returnIf cc))
    (rst : ∀ (n : Fin 8), P (.rst n))
    (nop : P .nop)
    (staxB : P .staxB)
    (rlc : P .rlc)
    (undoc08 : P .undoc08)
    (ldaxB : P .ldaxB)
    (rrc : P .rrc)
    (undoc10 : P .undoc10)
    (staxD : P .staxD)
    (ral : P .ral)
    (undoc18 : P .undoc18)
    (ldaxD : P .ldaxD)
    (rar : P .rar)
    (undoc20 : P .undoc20)
    (shld : ∀ w : Word, P (.shld w))
    (daa : P .daa)
    (undoc28 : P .undoc28)
    (lhld : ∀ w : Word, P (.lhld w))
    (cma : P .cma)
    (undoc30 : P .undoc30)
    (sta : ∀ w : Word, P (.sta w))
    (inrM : P .inrM)
    (dcrM : P .dcrM)
    (mviM : ∀ v : Byte, P (.mviM v))
    (stc : P .stc)
    (undoc38 : P .undoc38)
    (lda : ∀ w : Word, P (.lda w))
    (cmc : P .cmc)
    (hlt : P .hlt)
    (popB : P .popB)
    (jmp : ∀ w : Word, P (.jmp w))
    (pushB : P .pushB)
    (ret : P .ret)
    (undocCB : ∀ w : Word, P (.undocCB w))
    (call : ∀ w : Word, P (.call w))
    (popD : P .popD)
    (outPort : ∀ v : Byte, P (.outPort v))
    (pushD : P .pushD)
    (undocD9 : P .undocD9)
    (inPort : ∀ v : Byte, P (.inPort v))
    (undocDD : ∀ w : Word, P (.undocDD w))
    (popH : P .popH)
    (xthl : P .xthl)
    (pushH : P .pushH)
    (pchl : P .pchl)
    (xchg : P .xchg)
    (undocED : ∀ w : Word, P (.undocED w))
    (popPSW : P .popPSW)
    (di : P .di)
    (pushPSW : P .pushPSW)
    (sphl : P .sphl)
    (ei : P .ei)
    (undocFD : ∀ w : Word, P (.undocFD w))
    : ∀ i, P i := by
  intro i
  cases i with
  | inxB => exact inx .bc
  | inrB => exact inr .b
  | dcrB => exact dcr .b
  | dadB => exact dad .bc
  | dcxB => exact dcx .bc
  | inrC => exact inr .c
  | dcrC => exact dcr .c
  | inxD => exact inx .de
  | inrD => exact inr .d
  | dcrD => exact dcr .d
  | dadD => exact dad .de
  | dcxD => exact dcx .de
  | inrE => exact inr .e
  | dcrE => exact dcr .e
  | inxH => exact inx .hl
  | inrH => exact inr .h
  | dcrH => exact dcr .h
  | daa => exact daa
  | dadH => exact dad .hl
  | dcxH => exact dcx .hl
  | inrL => exact inr .l
  | dcrL => exact dcr .l
  | inxSP => exact inx .sp
  | inrM => exact inrM
  | dcrM => exact dcrM
  | dadSP => exact dad .sp
  | dcxSP => exact dcx .sp
  | inrA => exact inr .a
  | dcrA => exact dcr .a
  | addB => exact aluReg .add .b
  | addC => exact aluReg .add .c
  | addD => exact aluReg .add .d
  | addE => exact aluReg .add .e
  | addH => exact aluReg .add .h
  | addL => exact aluReg .add .l
  | addM => exact aluM .add
  | addA => exact aluReg .add .a
  | adcB => exact aluReg .adc .b
  | adcC => exact aluReg .adc .c
  | adcD => exact aluReg .adc .d
  | adcE => exact aluReg .adc .e
  | adcH => exact aluReg .adc .h
  | adcL => exact aluReg .adc .l
  | adcM => exact aluM .adc
  | adcA => exact aluReg .adc .a
  | subB => exact aluReg .sub .b
  | subC => exact aluReg .sub .c
  | subD => exact aluReg .sub .d
  | subE => exact aluReg .sub .e
  | subH => exact aluReg .sub .h
  | subL => exact aluReg .sub .l
  | subM => exact aluM .sub
  | subA => exact aluReg .sub .a
  | sbbB => exact aluReg .sbb .b
  | sbbC => exact aluReg .sbb .c
  | sbbD => exact aluReg .sbb .d
  | sbbE => exact aluReg .sbb .e
  | sbbH => exact aluReg .sbb .h
  | sbbL => exact aluReg .sbb .l
  | sbbM => exact aluM .sbb
  | sbbA => exact aluReg .sbb .a
  | adi v => exact aluImm .add v
  | aci v => exact aluImm .adc v
  | sui v => exact aluImm .sub v
  | sbi v => exact aluImm .sbb v
  | rlc => exact rlc
  | rrc => exact rrc
  | ral => exact ral
  | rar => exact rar
  | cma => exact cma
  | stc => exact stc
  | cmc => exact cmc
  | anaB => exact aluReg .ana .b
  | anaC => exact aluReg .ana .c
  | anaD => exact aluReg .ana .d
  | anaE => exact aluReg .ana .e
  | anaH => exact aluReg .ana .h
  | anaL => exact aluReg .ana .l
  | anaM => exact aluM .ana
  | anaA => exact aluReg .ana .a
  | xraB => exact aluReg .xra .b
  | xraC => exact aluReg .xra .c
  | xraD => exact aluReg .xra .d
  | xraE => exact aluReg .xra .e
  | xraH => exact aluReg .xra .h
  | xraL => exact aluReg .xra .l
  | xraM => exact aluM .xra
  | xraA => exact aluReg .xra .a
  | oraB => exact aluReg .ora .b
  | oraC => exact aluReg .ora .c
  | oraD => exact aluReg .ora .d
  | oraE => exact aluReg .ora .e
  | oraH => exact aluReg .ora .h
  | oraL => exact aluReg .ora .l
  | oraM => exact aluM .ora
  | oraA => exact aluReg .ora .a
  | cmpB => exact aluReg .cmp .b
  | cmpC => exact aluReg .cmp .c
  | cmpD => exact aluReg .cmp .d
  | cmpE => exact aluReg .cmp .e
  | cmpH => exact aluReg .cmp .h
  | cmpL => exact aluReg .cmp .l
  | cmpM => exact aluM .cmp
  | cmpA => exact aluReg .cmp .a
  | ani v => exact aluImm .ana v
  | xri v => exact aluImm .xra v
  | ori v => exact aluImm .ora v
  | cpi v => exact aluImm .cmp v
  | rnz => exact returnIf .nz
  | jnz w => exact jumpIf .nz w
  | jmp w => exact jmp w
  | cnz w => exact callIf .nz w
  | rst0 => exact rst 0
  | rz => exact returnIf .z
  | ret => exact ret
  | jz w => exact jumpIf .z w
  | cz w => exact callIf .z w
  | call w => exact call w
  | rst1 => exact rst 1
  | rnc => exact returnIf .nc
  | jnc w => exact jumpIf .nc w
  | cnc w => exact callIf .nc w
  | rst2 => exact rst 2
  | rc => exact returnIf .c
  | jc w => exact jumpIf .c w
  | cc w => exact callIf .c w
  | rst3 => exact rst 3
  | rpo => exact returnIf .po
  | jpo w => exact jumpIf .po w
  | cpo w => exact callIf .po w
  | rst4 => exact rst 4
  | rpe => exact returnIf .pe
  | pchl => exact pchl
  | jpe w => exact jumpIf .pe w
  | cpe w => exact callIf .pe w
  | rst5 => exact rst 5
  | rp => exact returnIf .p
  | jp w => exact jumpIf .p w
  | cp w => exact callIf .p w
  | rst6 => exact rst 6
  | rm => exact returnIf .m
  | jm w => exact jumpIf .m w
  | cm w => exact callIf .m w
  | rst7 => exact rst 7
  | nop => exact nop
  | hlt => exact hlt
  | popB => exact popB
  | pushB => exact pushB
  | popD => exact popD
  | outPort v => exact outPort v
  | pushD => exact pushD
  | inPort v => exact inPort v
  | popH => exact popH
  | xthl => exact xthl
  | pushH => exact pushH
  | popPSW => exact popPSW
  | di => exact di
  | pushPSW => exact pushPSW
  | sphl => exact sphl
  | ei => exact ei
  | undoc08 => exact undoc08
  | undoc10 => exact undoc10
  | undoc18 => exact undoc18
  | undoc20 => exact undoc20
  | undoc28 => exact undoc28
  | undoc30 => exact undoc30
  | undoc38 => exact undoc38
  | undocCB w => exact undocCB w
  | undocD9 => exact undocD9
  | undocDD w => exact undocDD w
  | undocED w => exact undocED w
  | undocFD w => exact undocFD w
  | lxiB w => exact lxi .bc w
  | staxB => exact staxB
  | mviB v => exact mviReg .b v
  | ldaxB => exact ldaxB
  | mviC v => exact mviReg .c v
  | lxiD w => exact lxi .de w
  | staxD => exact staxD
  | mviD v => exact mviReg .d v
  | ldaxD => exact ldaxD
  | mviE v => exact mviReg .e v
  | lxiH w => exact lxi .hl w
  | shld w => exact shld w
  | mviH v => exact mviReg .h v
  | lhld w => exact lhld w
  | mviL v => exact mviReg .l v
  | lxiSP w => exact lxi .sp w
  | sta w => exact sta w
  | mviM v => exact mviM v
  | lda w => exact lda w
  | mviA v => exact mviReg .a v
  | movBB => exact movReg .b .b
  | movBC => exact movReg .b .c
  | movBD => exact movReg .b .d
  | movBE => exact movReg .b .e
  | movBH => exact movReg .b .h
  | movBL => exact movReg .b .l
  | movBM => exact movFromM .b
  | movBA => exact movReg .b .a
  | movCB => exact movReg .c .b
  | movCC => exact movReg .c .c
  | movCD => exact movReg .c .d
  | movCE => exact movReg .c .e
  | movCH => exact movReg .c .h
  | movCL => exact movReg .c .l
  | movCM => exact movFromM .c
  | movCA => exact movReg .c .a
  | movDB => exact movReg .d .b
  | movDC => exact movReg .d .c
  | movDD => exact movReg .d .d
  | movDE => exact movReg .d .e
  | movDH => exact movReg .d .h
  | movDL => exact movReg .d .l
  | movDM => exact movFromM .d
  | movDA => exact movReg .d .a
  | movEB => exact movReg .e .b
  | movEC => exact movReg .e .c
  | movED => exact movReg .e .d
  | movEE => exact movReg .e .e
  | movEH => exact movReg .e .h
  | movEL => exact movReg .e .l
  | movEM => exact movFromM .e
  | movEA => exact movReg .e .a
  | movHB => exact movReg .h .b
  | movHC => exact movReg .h .c
  | movHD => exact movReg .h .d
  | movHE => exact movReg .h .e
  | movHH => exact movReg .h .h
  | movHL => exact movReg .h .l
  | movHM => exact movFromM .h
  | movHA => exact movReg .h .a
  | movLB => exact movReg .l .b
  | movLC => exact movReg .l .c
  | movLD => exact movReg .l .d
  | movLE => exact movReg .l .e
  | movLH => exact movReg .l .h
  | movLL => exact movReg .l .l
  | movLM => exact movFromM .l
  | movLA => exact movReg .l .a
  | movMB => exact movToM .b
  | movMC => exact movToM .c
  | movMD => exact movToM .d
  | movME => exact movToM .e
  | movMH => exact movToM .h
  | movML => exact movToM .l
  | movMA => exact movToM .a
  | movAB => exact movReg .a .b
  | movAC => exact movReg .a .c
  | movAD => exact movReg .a .d
  | movAE => exact movReg .a .e
  | movAH => exact movReg .a .h
  | movAL => exact movReg .a .l
  | movAM => exact movFromM .a
  | movAA => exact movReg .a .a
  | xchg => exact xchg

variable (s : State)

theorem exec_movReg (rd rs : Reg8) : exec (.movReg rd rs) s = moveOp (.reg rd) (.reg rs) s := by
  cases rd <;> cases rs <;> rfl
theorem exec_movFromM (rd : Reg8) : exec (.movFromM rd) s = moveOp (.reg rd) .m s := by
  cases rd <;> rfl
theorem exec_movToM (rs : Reg8) : exec (.movToM rs) s = moveOp .m (.reg rs) s := by
  cases rs <;> rfl
theorem exec_mviReg (rd : Reg8) (v : Byte) : exec (.mviReg rd v) s = storeOp (.reg rd) v s := by
  cases rd <;> rfl
theorem exec_lxi (rp : RegPair) (w : Word) : exec (.lxi rp w) s = loadPairOp rp w s := by
  cases rp <;> rfl
theorem exec_aluReg (op : AluOp) (rs : Reg8) : exec (.aluReg op rs) s = aluOperandOp op (.reg rs) s := by
  cases op <;> cases rs <;> rfl
theorem exec_aluM (op : AluOp) : exec (.aluM op) s = aluOperandOp op .m s := by
  cases op <;> rfl
theorem exec_aluImm (op : AluOp) (v : Byte) : exec (.aluImm op v) s = aluImmediateOp op v s := by
  cases op <;> rfl
theorem exec_inr (rd : Reg8) : exec (.inr rd) s = incrementOp (.reg rd) s := by
  cases rd <;> rfl
theorem exec_dcr (rd : Reg8) : exec (.dcr rd) s = decrementOp (.reg rd) s := by
  cases rd <;> rfl
theorem exec_inx (rp : RegPair) : exec (.inx rp) s = inxOp rp s := by
  cases rp <;> rfl
theorem exec_dcx (rp : RegPair) : exec (.dcx rp) s = dcxOp rp s := by
  cases rp <;> rfl
theorem exec_dad (rp : RegPair) : exec (.dad rp) s = dadOp rp s := by
  cases rp <;> rfl
theorem exec_jumpIf (cc : Cond) (w : Word) : exec (.jumpIf cc w) s = jumpIfOp cc w s := by
  cases cc <;> rfl
theorem exec_callIf (cc : Cond) (w : Word) : exec (.callIf cc w) s = callIfOp cc w s := by
  cases cc <;> rfl
theorem exec_returnIf (cc : Cond) : exec (.returnIf cc) s = returnIfOp cc s := by
  cases cc <;> rfl
theorem exec_rst (n : Fin 8) : exec (.rst n) s = rstOp (BitVec.ofNat 3 n.val) s := by
  match n with
  | 0 | 1 | 2 | 3 | 4 | 5 | 6 | 7 => rfl

end Sys2Proof.Machine
end

