-- ==== Sys2Proof/Laws/State.lean ====
section
/-! SUPPORT. One lemma per field per update of the state, so that no later proof unfolds a record update. -/

namespace Sys2Proof.Machine

variable (s : State)

@[simp] theorem State.setSp_cfg (x : Word) : (s.setSp x).cfg = s.cfg := rfl
@[simp] theorem State.setSp_a (x : Word) : (s.setSp x).a = s.a := rfl
@[simp] theorem State.setSp_b (x : Word) : (s.setSp x).b = s.b := rfl
@[simp] theorem State.setSp_c (x : Word) : (s.setSp x).c = s.c := rfl
@[simp] theorem State.setSp_d (x : Word) : (s.setSp x).d = s.d := rfl
@[simp] theorem State.setSp_e (x : Word) : (s.setSp x).e = s.e := rfl
@[simp] theorem State.setSp_h (x : Word) : (s.setSp x).h = s.h := rfl
@[simp] theorem State.setSp_l (x : Word) : (s.setSp x).l = s.l := rfl
@[simp] theorem State.setSp_sp (x : Word) : (s.setSp x).sp = x := rfl
@[simp] theorem State.setSp_pc (x : Word) : (s.setSp x).pc = s.pc := rfl
@[simp] theorem State.setSp_flags (x : Word) : (s.setSp x).flags = s.flags := rfl
@[simp] theorem State.setSp_inte (x : Word) : (s.setSp x).inte = s.inte := rfl
@[simp] theorem State.setSp_halt (x : Word) : (s.setSp x).halt = s.halt := rfl
@[simp] theorem State.setSp_eiShadow (x : Word) : (s.setSp x).eiShadow = s.eiShadow := rfl
@[simp] theorem State.setSp_pending (x : Word) : (s.setSp x).pending = s.pending := rfl
@[simp] theorem State.setSp_shift (x : Word) : (s.setSp x).shift = s.shift := rfl
@[simp] theorem State.setSp_shiftOff (x : Word) : (s.setSp x).shiftOff = s.shiftOff := rfl
@[simp] theorem State.setSp_dip (x : Word) : (s.setSp x).dip = s.dip := rfl
@[simp] theorem State.setSp_cyc (x : Word) : (s.setSp x).cyc = s.cyc := rfl
@[simp] theorem State.setSp_midFired (x : Word) : (s.setSp x).midFired = s.midFired := rfl
@[simp] theorem State.setSp_frame (x : Word) : (s.setSp x).frame = s.frame := rfl
@[simp] theorem State.setSp_running (x : Word) : (s.setSp x).running = s.running := rfl
@[simp] theorem State.setSp_fault (x : Word) : (s.setSp x).fault = s.fault := rfl
@[simp] theorem State.setSp_store (x : Word) : (s.setSp x).store = s.store := rfl
@[simp] theorem State.setSp_outputs (x : Word) : (s.setSp x).outputs = s.outputs := rfl
@[simp] theorem State.setSp_inputDraws (x : Word) : (s.setSp x).inputDraws = s.inputDraws := rfl
@[simp] theorem State.setSp_reg (x : Word) (r : Reg8) : (s.setSp x).reg r = s.reg r := rfl
@[simp] theorem State.setSp_hl (x : Word) : (s.setSp x).hl = s.hl := rfl

@[simp] theorem State.setPc_cfg (x : Word) : (s.setPc x).cfg = s.cfg := rfl
@[simp] theorem State.setPc_a (x : Word) : (s.setPc x).a = s.a := rfl
@[simp] theorem State.setPc_b (x : Word) : (s.setPc x).b = s.b := rfl
@[simp] theorem State.setPc_c (x : Word) : (s.setPc x).c = s.c := rfl
@[simp] theorem State.setPc_d (x : Word) : (s.setPc x).d = s.d := rfl
@[simp] theorem State.setPc_e (x : Word) : (s.setPc x).e = s.e := rfl
@[simp] theorem State.setPc_h (x : Word) : (s.setPc x).h = s.h := rfl
@[simp] theorem State.setPc_l (x : Word) : (s.setPc x).l = s.l := rfl
@[simp] theorem State.setPc_sp (x : Word) : (s.setPc x).sp = s.sp := rfl
@[simp] theorem State.setPc_pc (x : Word) : (s.setPc x).pc = x := rfl
@[simp] theorem State.setPc_flags (x : Word) : (s.setPc x).flags = s.flags := rfl
@[simp] theorem State.setPc_inte (x : Word) : (s.setPc x).inte = s.inte := rfl
@[simp] theorem State.setPc_halt (x : Word) : (s.setPc x).halt = s.halt := rfl
@[simp] theorem State.setPc_eiShadow (x : Word) : (s.setPc x).eiShadow = s.eiShadow := rfl
@[simp] theorem State.setPc_pending (x : Word) : (s.setPc x).pending = s.pending := rfl
@[simp] theorem State.setPc_shift (x : Word) : (s.setPc x).shift = s.shift := rfl
@[simp] theorem State.setPc_shiftOff (x : Word) : (s.setPc x).shiftOff = s.shiftOff := rfl
@[simp] theorem State.setPc_dip (x : Word) : (s.setPc x).dip = s.dip := rfl
@[simp] theorem State.setPc_cyc (x : Word) : (s.setPc x).cyc = s.cyc := rfl
@[simp] theorem State.setPc_midFired (x : Word) : (s.setPc x).midFired = s.midFired := rfl
@[simp] theorem State.setPc_frame (x : Word) : (s.setPc x).frame = s.frame := rfl
@[simp] theorem State.setPc_running (x : Word) : (s.setPc x).running = s.running := rfl
@[simp] theorem State.setPc_fault (x : Word) : (s.setPc x).fault = s.fault := rfl
@[simp] theorem State.setPc_store (x : Word) : (s.setPc x).store = s.store := rfl
@[simp] theorem State.setPc_outputs (x : Word) : (s.setPc x).outputs = s.outputs := rfl
@[simp] theorem State.setPc_inputDraws (x : Word) : (s.setPc x).inputDraws = s.inputDraws := rfl
@[simp] theorem State.setPc_reg (x : Word) (r : Reg8) : (s.setPc x).reg r = s.reg r := rfl
@[simp] theorem State.setPc_pair (x : Word) (rp : RegPair) : (s.setPc x).pair rp = s.pair rp := rfl
@[simp] theorem State.setPc_hl (x : Word) : (s.setPc x).hl = s.hl := rfl

@[simp] theorem State.setFlags_cfg (x : Flags) : (s.setFlags x).cfg = s.cfg := rfl
@[simp] theorem State.setFlags_a (x : Flags) : (s.setFlags x).a = s.a := rfl
@[simp] theorem State.setFlags_b (x : Flags) : (s.setFlags x).b = s.b := rfl
@[simp] theorem State.setFlags_c (x : Flags) : (s.setFlags x).c = s.c := rfl
@[simp] theorem State.setFlags_d (x : Flags) : (s.setFlags x).d = s.d := rfl
@[simp] theorem State.setFlags_e (x : Flags) : (s.setFlags x).e = s.e := rfl
@[simp] theorem State.setFlags_h (x : Flags) : (s.setFlags x).h = s.h := rfl
@[simp] theorem State.setFlags_l (x : Flags) : (s.setFlags x).l = s.l := rfl
@[simp] theorem State.setFlags_sp (x : Flags) : (s.setFlags x).sp = s.sp := rfl
@[simp] theorem State.setFlags_pc (x : Flags) : (s.setFlags x).pc = s.pc := rfl
@[simp] theorem State.setFlags_flags (x : Flags) : (s.setFlags x).flags = x := rfl
@[simp] theorem State.setFlags_inte (x : Flags) : (s.setFlags x).inte = s.inte := rfl
@[simp] theorem State.setFlags_halt (x : Flags) : (s.setFlags x).halt = s.halt := rfl
@[simp] theorem State.setFlags_eiShadow (x : Flags) : (s.setFlags x).eiShadow = s.eiShadow := rfl
@[simp] theorem State.setFlags_pending (x : Flags) : (s.setFlags x).pending = s.pending := rfl
@[simp] theorem State.setFlags_shift (x : Flags) : (s.setFlags x).shift = s.shift := rfl
@[simp] theorem State.setFlags_shiftOff (x : Flags) : (s.setFlags x).shiftOff = s.shiftOff := rfl
@[simp] theorem State.setFlags_dip (x : Flags) : (s.setFlags x).dip = s.dip := rfl
@[simp] theorem State.setFlags_cyc (x : Flags) : (s.setFlags x).cyc = s.cyc := rfl
@[simp] theorem State.setFlags_midFired (x : Flags) : (s.setFlags x).midFired = s.midFired := rfl
@[simp] theorem State.setFlags_frame (x : Flags) : (s.setFlags x).frame = s.frame := rfl
@[simp] theorem State.setFlags_running (x : Flags) : (s.setFlags x).running = s.running := rfl
@[simp] theorem State.setFlags_fault (x : Flags) : (s.setFlags x).fault = s.fault := rfl
@[simp] theorem State.setFlags_store (x : Flags) : (s.setFlags x).store = s.store := rfl
@[simp] theorem State.setFlags_outputs (x : Flags) : (s.setFlags x).outputs = s.outputs := rfl
@[simp] theorem State.setFlags_inputDraws (x : Flags) : (s.setFlags x).inputDraws = s.inputDraws := rfl
@[simp] theorem State.setFlags_reg (x : Flags) (r : Reg8) : (s.setFlags x).reg r = s.reg r := rfl
@[simp] theorem State.setFlags_pair (x : Flags) (rp : RegPair) : (s.setFlags x).pair rp = s.pair rp := rfl
@[simp] theorem State.setFlags_hl (x : Flags) : (s.setFlags x).hl = s.hl := rfl

@[simp] theorem State.setInte_cfg (x : Bool) : (s.setInte x).cfg = s.cfg := rfl
@[simp] theorem State.setInte_a (x : Bool) : (s.setInte x).a = s.a := rfl
@[simp] theorem State.setInte_b (x : Bool) : (s.setInte x).b = s.b := rfl
@[simp] theorem State.setInte_c (x : Bool) : (s.setInte x).c = s.c := rfl
@[simp] theorem State.setInte_d (x : Bool) : (s.setInte x).d = s.d := rfl
@[simp] theorem State.setInte_e (x : Bool) : (s.setInte x).e = s.e := rfl
@[simp] theorem State.setInte_h (x : Bool) : (s.setInte x).h = s.h := rfl
@[simp] theorem State.setInte_l (x : Bool) : (s.setInte x).l = s.l := rfl
@[simp] theorem State.setInte_sp (x : Bool) : (s.setInte x).sp = s.sp := rfl
@[simp] theorem State.setInte_pc (x : Bool) : (s.setInte x).pc = s.pc := rfl
@[simp] theorem State.setInte_flags (x : Bool) : (s.setInte x).flags = s.flags := rfl
@[simp] theorem State.setInte_inte (x : Bool) : (s.setInte x).inte = x := rfl
@[simp] theorem State.setInte_halt (x : Bool) : (s.setInte x).halt = s.halt := rfl
@[simp] theorem State.setInte_eiShadow (x : Bool) : (s.setInte x).eiShadow = s.eiShadow := rfl
@[simp] theorem State.setInte_pending (x : Bool) : (s.setInte x).pending = s.pending := rfl
@[simp] theorem State.setInte_shift (x : Bool) : (s.setInte x).shift = s.shift := rfl
@[simp] theorem State.setInte_shiftOff (x : Bool) : (s.setInte x).shiftOff = s.shiftOff := rfl
@[simp] theorem State.setInte_dip (x : Bool) : (s.setInte x).dip = s.dip := rfl
@[simp] theorem State.setInte_cyc (x : Bool) : (s.setInte x).cyc = s.cyc := rfl
@[simp] theorem State.setInte_midFired (x : Bool) : (s.setInte x).midFired = s.midFired := rfl
@[simp] theorem State.setInte_frame (x : Bool) : (s.setInte x).frame = s.frame := rfl
@[simp] theorem State.setInte_running (x : Bool) : (s.setInte x).running = s.running := rfl
@[simp] theorem State.setInte_fault (x : Bool) : (s.setInte x).fault = s.fault := rfl
@[simp] theorem State.setInte_store (x : Bool) : (s.setInte x).store = s.store := rfl
@[simp] theorem State.setInte_outputs (x : Bool) : (s.setInte x).outputs = s.outputs := rfl
@[simp] theorem State.setInte_inputDraws (x : Bool) : (s.setInte x).inputDraws = s.inputDraws := rfl
@[simp] theorem State.setInte_reg (x : Bool) (r : Reg8) : (s.setInte x).reg r = s.reg r := rfl
@[simp] theorem State.setInte_pair (x : Bool) (rp : RegPair) : (s.setInte x).pair rp = s.pair rp := rfl
@[simp] theorem State.setInte_hl (x : Bool) : (s.setInte x).hl = s.hl := rfl

@[simp] theorem State.setHalt_cfg (x : Bool) : (s.setHalt x).cfg = s.cfg := rfl
@[simp] theorem State.setHalt_a (x : Bool) : (s.setHalt x).a = s.a := rfl
@[simp] theorem State.setHalt_b (x : Bool) : (s.setHalt x).b = s.b := rfl
@[simp] theorem State.setHalt_c (x : Bool) : (s.setHalt x).c = s.c := rfl
@[simp] theorem State.setHalt_d (x : Bool) : (s.setHalt x).d = s.d := rfl
@[simp] theorem State.setHalt_e (x : Bool) : (s.setHalt x).e = s.e := rfl
@[simp] theorem State.setHalt_h (x : Bool) : (s.setHalt x).h = s.h := rfl
@[simp] theorem State.setHalt_l (x : Bool) : (s.setHalt x).l = s.l := rfl
@[simp] theorem State.setHalt_sp (x : Bool) : (s.setHalt x).sp = s.sp := rfl
@[simp] theorem State.setHalt_pc (x : Bool) : (s.setHalt x).pc = s.pc := rfl
@[simp] theorem State.setHalt_flags (x : Bool) : (s.setHalt x).flags = s.flags := rfl
@[simp] theorem State.setHalt_inte (x : Bool) : (s.setHalt x).inte = s.inte := rfl
@[simp] theorem State.setHalt_halt (x : Bool) : (s.setHalt x).halt = x := rfl
@[simp] theorem State.setHalt_eiShadow (x : Bool) : (s.setHalt x).eiShadow = s.eiShadow := rfl
@[simp] theorem State.setHalt_pending (x : Bool) : (s.setHalt x).pending = s.pending := rfl
@[simp] theorem State.setHalt_shift (x : Bool) : (s.setHalt x).shift = s.shift := rfl
@[simp] theorem State.setHalt_shiftOff (x : Bool) : (s.setHalt x).shiftOff = s.shiftOff := rfl
@[simp] theorem State.setHalt_dip (x : Bool) : (s.setHalt x).dip = s.dip := rfl
@[simp] theorem State.setHalt_cyc (x : Bool) : (s.setHalt x).cyc = s.cyc := rfl
@[simp] theorem State.setHalt_midFired (x : Bool) : (s.setHalt x).midFired = s.midFired := rfl
@[simp] theorem State.setHalt_frame (x : Bool) : (s.setHalt x).frame = s.frame := rfl
@[simp] theorem State.setHalt_running (x : Bool) : (s.setHalt x).running = s.running := rfl
@[simp] theorem State.setHalt_fault (x : Bool) : (s.setHalt x).fault = s.fault := rfl
@[simp] theorem State.setHalt_store (x : Bool) : (s.setHalt x).store = s.store := rfl
@[simp] theorem State.setHalt_outputs (x : Bool) : (s.setHalt x).outputs = s.outputs := rfl
@[simp] theorem State.setHalt_inputDraws (x : Bool) : (s.setHalt x).inputDraws = s.inputDraws := rfl
@[simp] theorem State.setHalt_reg (x : Bool) (r : Reg8) : (s.setHalt x).reg r = s.reg r := rfl
@[simp] theorem State.setHalt_pair (x : Bool) (rp : RegPair) : (s.setHalt x).pair rp = s.pair rp := rfl
@[simp] theorem State.setHalt_hl (x : Bool) : (s.setHalt x).hl = s.hl := rfl

@[simp] theorem State.setEiShadow_cfg (x : Bool) : (s.setEiShadow x).cfg = s.cfg := rfl
@[simp] theorem State.setEiShadow_a (x : Bool) : (s.setEiShadow x).a = s.a := rfl
@[simp] theorem State.setEiShadow_b (x : Bool) : (s.setEiShadow x).b = s.b := rfl
@[simp] theorem State.setEiShadow_c (x : Bool) : (s.setEiShadow x).c = s.c := rfl
@[simp] theorem State.setEiShadow_d (x : Bool) : (s.setEiShadow x).d = s.d := rfl
@[simp] theorem State.setEiShadow_e (x : Bool) : (s.setEiShadow x).e = s.e := rfl
@[simp] theorem State.setEiShadow_h (x : Bool) : (s.setEiShadow x).h = s.h := rfl
@[simp] theorem State.setEiShadow_l (x : Bool) : (s.setEiShadow x).l = s.l := rfl
@[simp] theorem State.setEiShadow_sp (x : Bool) : (s.setEiShadow x).sp = s.sp := rfl
@[simp] theorem State.setEiShadow_pc (x : Bool) : (s.setEiShadow x).pc = s.pc := rfl
@[simp] theorem State.setEiShadow_flags (x : Bool) : (s.setEiShadow x).flags = s.flags := rfl
@[simp] theorem State.setEiShadow_inte (x : Bool) : (s.setEiShadow x).inte = s.inte := rfl
@[simp] theorem State.setEiShadow_halt (x : Bool) : (s.setEiShadow x).halt = s.halt := rfl
@[simp] theorem State.setEiShadow_eiShadow (x : Bool) : (s.setEiShadow x).eiShadow = x := rfl
@[simp] theorem State.setEiShadow_pending (x : Bool) : (s.setEiShadow x).pending = s.pending := rfl
@[simp] theorem State.setEiShadow_shift (x : Bool) : (s.setEiShadow x).shift = s.shift := rfl
@[simp] theorem State.setEiShadow_shiftOff (x : Bool) : (s.setEiShadow x).shiftOff = s.shiftOff := rfl
@[simp] theorem State.setEiShadow_dip (x : Bool) : (s.setEiShadow x).dip = s.dip := rfl
@[simp] theorem State.setEiShadow_cyc (x : Bool) : (s.setEiShadow x).cyc = s.cyc := rfl
@[simp] theorem State.setEiShadow_midFired (x : Bool) : (s.setEiShadow x).midFired = s.midFired := rfl
@[simp] theorem State.setEiShadow_frame (x : Bool) : (s.setEiShadow x).frame = s.frame := rfl
@[simp] theorem State.setEiShadow_running (x : Bool) : (s.setEiShadow x).running = s.running := rfl
@[simp] theorem State.setEiShadow_fault (x : Bool) : (s.setEiShadow x).fault = s.fault := rfl
@[simp] theorem State.setEiShadow_store (x : Bool) : (s.setEiShadow x).store = s.store := rfl
@[simp] theorem State.setEiShadow_outputs (x : Bool) : (s.setEiShadow x).outputs = s.outputs := rfl
@[simp] theorem State.setEiShadow_inputDraws (x : Bool) : (s.setEiShadow x).inputDraws = s.inputDraws := rfl
@[simp] theorem State.setEiShadow_reg (x : Bool) (r : Reg8) : (s.setEiShadow x).reg r = s.reg r := rfl
@[simp] theorem State.setEiShadow_pair (x : Bool) (rp : RegPair) : (s.setEiShadow x).pair rp = s.pair rp := rfl
@[simp] theorem State.setEiShadow_hl (x : Bool) : (s.setEiShadow x).hl = s.hl := rfl

@[simp] theorem State.setPending_cfg (x : Option (BitVec 3)) : (s.setPending x).cfg = s.cfg := rfl
@[simp] theorem State.setPending_a (x : Option (BitVec 3)) : (s.setPending x).a = s.a := rfl
@[simp] theorem State.setPending_b (x : Option (BitVec 3)) : (s.setPending x).b = s.b := rfl
@[simp] theorem State.setPending_c (x : Option (BitVec 3)) : (s.setPending x).c = s.c := rfl
@[simp] theorem State.setPending_d (x : Option (BitVec 3)) : (s.setPending x).d = s.d := rfl
@[simp] theorem State.setPending_e (x : Option (BitVec 3)) : (s.setPending x).e = s.e := rfl
@[simp] theorem State.setPending_h (x : Option (BitVec 3)) : (s.setPending x).h = s.h := rfl
@[simp] theorem State.setPending_l (x : Option (BitVec 3)) : (s.setPending x).l = s.l := rfl
@[simp] theorem State.setPending_sp (x : Option (BitVec 3)) : (s.setPending x).sp = s.sp := rfl
@[simp] theorem State.setPending_pc (x : Option (BitVec 3)) : (s.setPending x).pc = s.pc := rfl
@[simp] theorem State.setPending_flags (x : Option (BitVec 3)) : (s.setPending x).flags = s.flags := rfl
@[simp] theorem State.setPending_inte (x : Option (BitVec 3)) : (s.setPending x).inte = s.inte := rfl
@[simp] theorem State.setPending_halt (x : Option (BitVec 3)) : (s.setPending x).halt = s.halt := rfl
@[simp] theorem State.setPending_eiShadow (x : Option (BitVec 3)) : (s.setPending x).eiShadow = s.eiShadow := rfl
@[simp] theorem State.setPending_pending (x : Option (BitVec 3)) : (s.setPending x).pending = x := rfl
@[simp] theorem State.setPending_shift (x : Option (BitVec 3)) : (s.setPending x).shift = s.shift := rfl
@[simp] theorem State.setPending_shiftOff (x : Option (BitVec 3)) : (s.setPending x).shiftOff = s.shiftOff := rfl
@[simp] theorem State.setPending_dip (x : Option (BitVec 3)) : (s.setPending x).dip = s.dip := rfl
@[simp] theorem State.setPending_cyc (x : Option (BitVec 3)) : (s.setPending x).cyc = s.cyc := rfl
@[simp] theorem State.setPending_midFired (x : Option (BitVec 3)) : (s.setPending x).midFired = s.midFired := rfl
@[simp] theorem State.setPending_frame (x : Option (BitVec 3)) : (s.setPending x).frame = s.frame := rfl
@[simp] theorem State.setPending_running (x : Option (BitVec 3)) : (s.setPending x).running = s.running := rfl
@[simp] theorem State.setPending_fault (x : Option (BitVec 3)) : (s.setPending x).fault = s.fault := rfl
@[simp] theorem State.setPending_store (x : Option (BitVec 3)) : (s.setPending x).store = s.store := rfl
@[simp] theorem State.setPending_outputs (x : Option (BitVec 3)) : (s.setPending x).outputs = s.outputs := rfl
@[simp] theorem State.setPending_inputDraws (x : Option (BitVec 3)) : (s.setPending x).inputDraws = s.inputDraws := rfl
@[simp] theorem State.setPending_reg (x : Option (BitVec 3)) (r : Reg8) : (s.setPending x).reg r = s.reg r := rfl
@[simp] theorem State.setPending_pair (x : Option (BitVec 3)) (rp : RegPair) : (s.setPending x).pair rp = s.pair rp := rfl
@[simp] theorem State.setPending_hl (x : Option (BitVec 3)) : (s.setPending x).hl = s.hl := rfl

@[simp] theorem State.setShift_cfg (x : Word) : (s.setShift x).cfg = s.cfg := rfl
@[simp] theorem State.setShift_a (x : Word) : (s.setShift x).a = s.a := rfl
@[simp] theorem State.setShift_b (x : Word) : (s.setShift x).b = s.b := rfl
@[simp] theorem State.setShift_c (x : Word) : (s.setShift x).c = s.c := rfl
@[simp] theorem State.setShift_d (x : Word) : (s.setShift x).d = s.d := rfl
@[simp] theorem State.setShift_e (x : Word) : (s.setShift x).e = s.e := rfl
@[simp] theorem State.setShift_h (x : Word) : (s.setShift x).h = s.h := rfl
@[simp] theorem State.setShift_l (x : Word) : (s.setShift x).l = s.l := rfl
@[simp] theorem State.setShift_sp (x : Word) : (s.setShift x).sp = s.sp := rfl
@[simp] theorem State.setShift_pc (x : Word) : (s.setShift x).pc = s.pc := rfl
@[simp] theorem State.setShift_flags (x : Word) : (s.setShift x).flags = s.flags := rfl
@[simp] theorem State.setShift_inte (x : Word) : (s.setShift x).inte = s.inte := rfl
@[simp] theorem State.setShift_halt (x : Word) : (s.setShift x).halt = s.halt := rfl
@[simp] theorem State.setShift_eiShadow (x : Word) : (s.setShift x).eiShadow = s.eiShadow := rfl
@[simp] theorem State.setShift_pending (x : Word) : (s.setShift x).pending = s.pending := rfl
@[simp] theorem State.setShift_shift (x : Word) : (s.setShift x).shift = x := rfl
@[simp] theorem State.setShift_shiftOff (x : Word) : (s.setShift x).shiftOff = s.shiftOff := rfl
@[simp] theorem State.setShift_dip (x : Word) : (s.setShift x).dip = s.dip := rfl
@[simp] theorem State.setShift_cyc (x : Word) : (s.setShift x).cyc = s.cyc := rfl
@[simp] theorem State.setShift_midFired (x : Word) : (s.setShift x).midFired = s.midFired := rfl
@[simp] theorem State.setShift_frame (x : Word) : (s.setShift x).frame = s.frame := rfl
@[simp] theorem State.setShift_running (x : Word) : (s.setShift x).running = s.running := rfl
@[simp] theorem State.setShift_fault (x : Word) : (s.setShift x).fault = s.fault := rfl
@[simp] theorem State.setShift_store (x : Word) : (s.setShift x).store = s.store := rfl
@[simp] theorem State.setShift_outputs (x : Word) : (s.setShift x).outputs = s.outputs := rfl
@[simp] theorem State.setShift_inputDraws (x : Word) : (s.setShift x).inputDraws = s.inputDraws := rfl
@[simp] theorem State.setShift_reg (x : Word) (r : Reg8) : (s.setShift x).reg r = s.reg r := rfl
@[simp] theorem State.setShift_pair (x : Word) (rp : RegPair) : (s.setShift x).pair rp = s.pair rp := rfl
@[simp] theorem State.setShift_hl (x : Word) : (s.setShift x).hl = s.hl := rfl

@[simp] theorem State.setShiftOff_cfg (x : BitVec 3) : (s.setShiftOff x).cfg = s.cfg := rfl
@[simp] theorem State.setShiftOff_a (x : BitVec 3) : (s.setShiftOff x).a = s.a := rfl
@[simp] theorem State.setShiftOff_b (x : BitVec 3) : (s.setShiftOff x).b = s.b := rfl
@[simp] theorem State.setShiftOff_c (x : BitVec 3) : (s.setShiftOff x).c = s.c := rfl
@[simp] theorem State.setShiftOff_d (x : BitVec 3) : (s.setShiftOff x).d = s.d := rfl
@[simp] theorem State.setShiftOff_e (x : BitVec 3) : (s.setShiftOff x).e = s.e := rfl
@[simp] theorem State.setShiftOff_h (x : BitVec 3) : (s.setShiftOff x).h = s.h := rfl
@[simp] theorem State.setShiftOff_l (x : BitVec 3) : (s.setShiftOff x).l = s.l := rfl
@[simp] theorem State.setShiftOff_sp (x : BitVec 3) : (s.setShiftOff x).sp = s.sp := rfl
@[simp] theorem State.setShiftOff_pc (x : BitVec 3) : (s.setShiftOff x).pc = s.pc := rfl
@[simp] theorem State.setShiftOff_flags (x : BitVec 3) : (s.setShiftOff x).flags = s.flags := rfl
@[simp] theorem State.setShiftOff_inte (x : BitVec 3) : (s.setShiftOff x).inte = s.inte := rfl
@[simp] theorem State.setShiftOff_halt (x : BitVec 3) : (s.setShiftOff x).halt = s.halt := rfl
@[simp] theorem State.setShiftOff_eiShadow (x : BitVec 3) : (s.setShiftOff x).eiShadow = s.eiShadow := rfl
@[simp] theorem State.setShiftOff_pending (x : BitVec 3) : (s.setShiftOff x).pending = s.pending := rfl
@[simp] theorem State.setShiftOff_shift (x : BitVec 3) : (s.setShiftOff x).shift = s.shift := rfl
@[simp] theorem State.setShiftOff_shiftOff (x : BitVec 3) : (s.setShiftOff x).shiftOff = x := rfl
@[simp] theorem State.setShiftOff_dip (x : BitVec 3) : (s.setShiftOff x).dip = s.dip := rfl
@[simp] theorem State.setShiftOff_cyc (x : BitVec 3) : (s.setShiftOff x).cyc = s.cyc := rfl
@[simp] theorem State.setShiftOff_midFired (x : BitVec 3) : (s.setShiftOff x).midFired = s.midFired := rfl
@[simp] theorem State.setShiftOff_frame (x : BitVec 3) : (s.setShiftOff x).frame = s.frame := rfl
@[simp] theorem State.setShiftOff_running (x : BitVec 3) : (s.setShiftOff x).running = s.running := rfl
@[simp] theorem State.setShiftOff_fault (x : BitVec 3) : (s.setShiftOff x).fault = s.fault := rfl
@[simp] theorem State.setShiftOff_store (x : BitVec 3) : (s.setShiftOff x).store = s.store := rfl
@[simp] theorem State.setShiftOff_outputs (x : BitVec 3) : (s.setShiftOff x).outputs = s.outputs := rfl
@[simp] theorem State.setShiftOff_inputDraws (x : BitVec 3) : (s.setShiftOff x).inputDraws = s.inputDraws := rfl
@[simp] theorem State.setShiftOff_reg (x : BitVec 3) (r : Reg8) : (s.setShiftOff x).reg r = s.reg r := rfl
@[simp] theorem State.setShiftOff_pair (x : BitVec 3) (rp : RegPair) : (s.setShiftOff x).pair rp = s.pair rp := rfl
@[simp] theorem State.setShiftOff_hl (x : BitVec 3) : (s.setShiftOff x).hl = s.hl := rfl

@[simp] theorem State.setCyc_cfg (x : Nat) : (s.setCyc x).cfg = s.cfg := rfl
@[simp] theorem State.setCyc_a (x : Nat) : (s.setCyc x).a = s.a := rfl
@[simp] theorem State.setCyc_b (x : Nat) : (s.setCyc x).b = s.b := rfl
@[simp] theorem State.setCyc_c (x : Nat) : (s.setCyc x).c = s.c := rfl
@[simp] theorem State.setCyc_d (x : Nat) : (s.setCyc x).d = s.d := rfl
@[simp] theorem State.setCyc_e (x : Nat) : (s.setCyc x).e = s.e := rfl
@[simp] theorem State.setCyc_h (x : Nat) : (s.setCyc x).h = s.h := rfl
@[simp] theorem State.setCyc_l (x : Nat) : (s.setCyc x).l = s.l := rfl
@[simp] theorem State.setCyc_sp (x : Nat) : (s.setCyc x).sp = s.sp := rfl
@[simp] theorem State.setCyc_pc (x : Nat) : (s.setCyc x).pc = s.pc := rfl
@[simp] theorem State.setCyc_flags (x : Nat) : (s.setCyc x).flags = s.flags := rfl
@[simp] theorem State.setCyc_inte (x : Nat) : (s.setCyc x).inte = s.inte := rfl
@[simp] theorem State.setCyc_halt (x : Nat) : (s.setCyc x).halt = s.halt := rfl
@[simp] theorem State.setCyc_eiShadow (x : Nat) : (s.setCyc x).eiShadow = s.eiShadow := rfl
@[simp] theorem State.setCyc_pending (x : Nat) : (s.setCyc x).pending = s.pending := rfl
@[simp] theorem State.setCyc_shift (x : Nat) : (s.setCyc x).shift = s.shift := rfl
@[simp] theorem State.setCyc_shiftOff (x : Nat) : (s.setCyc x).shiftOff = s.shiftOff := rfl
@[simp] theorem State.setCyc_dip (x : Nat) : (s.setCyc x).dip = s.dip := rfl
@[simp] theorem State.setCyc_cyc (x : Nat) : (s.setCyc x).cyc = x := rfl
@[simp] theorem State.setCyc_midFired (x : Nat) : (s.setCyc x).midFired = s.midFired := rfl
@[simp] theorem State.setCyc_frame (x : Nat) : (s.setCyc x).frame = s.frame := rfl
@[simp] theorem State.setCyc_running (x : Nat) : (s.setCyc x).running = s.running := rfl
@[simp] theorem State.setCyc_fault (x : Nat) : (s.setCyc x).fault = s.fault := rfl
@[simp] theorem State.setCyc_store (x : Nat) : (s.setCyc x).store = s.store := rfl
@[simp] theorem State.setCyc_outputs (x : Nat) : (s.setCyc x).outputs = s.outputs := rfl
@[simp] theorem State.setCyc_inputDraws (x : Nat) : (s.setCyc x).inputDraws = s.inputDraws := rfl
@[simp] theorem State.setCyc_reg (x : Nat) (r : Reg8) : (s.setCyc x).reg r = s.reg r := rfl
@[simp] theorem State.setCyc_pair (x : Nat) (rp : RegPair) : (s.setCyc x).pair rp = s.pair rp := rfl
@[simp] theorem State.setCyc_hl (x : Nat) : (s.setCyc x).hl = s.hl := rfl

@[simp] theorem State.setMidFired_cfg (x : Bool) : (s.setMidFired x).cfg = s.cfg := rfl
@[simp] theorem State.setMidFired_a (x : Bool) : (s.setMidFired x).a = s.a := rfl
@[simp] theorem State.setMidFired_b (x : Bool) : (s.setMidFired x).b = s.b := rfl
@[simp] theorem State.setMidFired_c (x : Bool) : (s.setMidFired x).c = s.c := rfl
@[simp] theorem State.setMidFired_d (x : Bool) : (s.setMidFired x).d = s.d := rfl
@[simp] theorem State.setMidFired_e (x : Bool) : (s.setMidFired x).e = s.e := rfl
@[simp] theorem State.setMidFired_h (x : Bool) : (s.setMidFired x).h = s.h := rfl
@[simp] theorem State.setMidFired_l (x : Bool) : (s.setMidFired x).l = s.l := rfl
@[simp] theorem State.setMidFired_sp (x : Bool) : (s.setMidFired x).sp = s.sp := rfl
@[simp] theorem State.setMidFired_pc (x : Bool) : (s.setMidFired x).pc = s.pc := rfl
@[simp] theorem State.setMidFired_flags (x : Bool) : (s.setMidFired x).flags = s.flags := rfl
@[simp] theorem State.setMidFired_inte (x : Bool) : (s.setMidFired x).inte = s.inte := rfl
@[simp] theorem State.setMidFired_halt (x : Bool) : (s.setMidFired x).halt = s.halt := rfl
@[simp] theorem State.setMidFired_eiShadow (x : Bool) : (s.setMidFired x).eiShadow = s.eiShadow := rfl
@[simp] theorem State.setMidFired_pending (x : Bool) : (s.setMidFired x).pending = s.pending := rfl
@[simp] theorem State.setMidFired_shift (x : Bool) : (s.setMidFired x).shift = s.shift := rfl
@[simp] theorem State.setMidFired_shiftOff (x : Bool) : (s.setMidFired x).shiftOff = s.shiftOff := rfl
@[simp] theorem State.setMidFired_dip (x : Bool) : (s.setMidFired x).dip = s.dip := rfl
@[simp] theorem State.setMidFired_cyc (x : Bool) : (s.setMidFired x).cyc = s.cyc := rfl
@[simp] theorem State.setMidFired_midFired (x : Bool) : (s.setMidFired x).midFired = x := rfl
@[simp] theorem State.setMidFired_frame (x : Bool) : (s.setMidFired x).frame = s.frame := rfl
@[simp] theorem State.setMidFired_running (x : Bool) : (s.setMidFired x).running = s.running := rfl
@[simp] theorem State.setMidFired_fault (x : Bool) : (s.setMidFired x).fault = s.fault := rfl
@[simp] theorem State.setMidFired_store (x : Bool) : (s.setMidFired x).store = s.store := rfl
@[simp] theorem State.setMidFired_outputs (x : Bool) : (s.setMidFired x).outputs = s.outputs := rfl
@[simp] theorem State.setMidFired_inputDraws (x : Bool) : (s.setMidFired x).inputDraws = s.inputDraws := rfl
@[simp] theorem State.setMidFired_reg (x : Bool) (r : Reg8) : (s.setMidFired x).reg r = s.reg r := rfl
@[simp] theorem State.setMidFired_pair (x : Bool) (rp : RegPair) : (s.setMidFired x).pair rp = s.pair rp := rfl
@[simp] theorem State.setMidFired_hl (x : Bool) : (s.setMidFired x).hl = s.hl := rfl

@[simp] theorem State.setFrame_cfg (x : Nat) : (s.setFrame x).cfg = s.cfg := rfl
@[simp] theorem State.setFrame_a (x : Nat) : (s.setFrame x).a = s.a := rfl
@[simp] theorem State.setFrame_b (x : Nat) : (s.setFrame x).b = s.b := rfl
@[simp] theorem State.setFrame_c (x : Nat) : (s.setFrame x).c = s.c := rfl
@[simp] theorem State.setFrame_d (x : Nat) : (s.setFrame x).d = s.d := rfl
@[simp] theorem State.setFrame_e (x : Nat) : (s.setFrame x).e = s.e := rfl
@[simp] theorem State.setFrame_h (x : Nat) : (s.setFrame x).h = s.h := rfl
@[simp] theorem State.setFrame_l (x : Nat) : (s.setFrame x).l = s.l := rfl
@[simp] theorem State.setFrame_sp (x : Nat) : (s.setFrame x).sp = s.sp := rfl
@[simp] theorem State.setFrame_pc (x : Nat) : (s.setFrame x).pc = s.pc := rfl
@[simp] theorem State.setFrame_flags (x : Nat) : (s.setFrame x).flags = s.flags := rfl
@[simp] theorem State.setFrame_inte (x : Nat) : (s.setFrame x).inte = s.inte := rfl
@[simp] theorem State.setFrame_halt (x : Nat) : (s.setFrame x).halt = s.halt := rfl
@[simp] theorem State.setFrame_eiShadow (x : Nat) : (s.setFrame x).eiShadow = s.eiShadow := rfl
@[simp] theorem State.setFrame_pending (x : Nat) : (s.setFrame x).pending = s.pending := rfl
@[simp] theorem State.setFrame_shift (x : Nat) : (s.setFrame x).shift = s.shift := rfl
@[simp] theorem State.setFrame_shiftOff (x : Nat) : (s.setFrame x).shiftOff = s.shiftOff := rfl
@[simp] theorem State.setFrame_dip (x : Nat) : (s.setFrame x).dip = s.dip := rfl
@[simp] theorem State.setFrame_cyc (x : Nat) : (s.setFrame x).cyc = s.cyc := rfl
@[simp] theorem State.setFrame_midFired (x : Nat) : (s.setFrame x).midFired = s.midFired := rfl
@[simp] theorem State.setFrame_frame (x : Nat) : (s.setFrame x).frame = x := rfl
@[simp] theorem State.setFrame_running (x : Nat) : (s.setFrame x).running = s.running := rfl
@[simp] theorem State.setFrame_fault (x : Nat) : (s.setFrame x).fault = s.fault := rfl
@[simp] theorem State.setFrame_store (x : Nat) : (s.setFrame x).store = s.store := rfl
@[simp] theorem State.setFrame_outputs (x : Nat) : (s.setFrame x).outputs = s.outputs := rfl
@[simp] theorem State.setFrame_inputDraws (x : Nat) : (s.setFrame x).inputDraws = s.inputDraws := rfl
@[simp] theorem State.setFrame_reg (x : Nat) (r : Reg8) : (s.setFrame x).reg r = s.reg r := rfl
@[simp] theorem State.setFrame_pair (x : Nat) (rp : RegPair) : (s.setFrame x).pair rp = s.pair rp := rfl
@[simp] theorem State.setFrame_hl (x : Nat) : (s.setFrame x).hl = s.hl := rfl

@[simp] theorem State.setRunning_cfg (x : Bool) : (s.setRunning x).cfg = s.cfg := rfl
@[simp] theorem State.setRunning_a (x : Bool) : (s.setRunning x).a = s.a := rfl
@[simp] theorem State.setRunning_b (x : Bool) : (s.setRunning x).b = s.b := rfl
@[simp] theorem State.setRunning_c (x : Bool) : (s.setRunning x).c = s.c := rfl
@[simp] theorem State.setRunning_d (x : Bool) : (s.setRunning x).d = s.d := rfl
@[simp] theorem State.setRunning_e (x : Bool) : (s.setRunning x).e = s.e := rfl
@[simp] theorem State.setRunning_h (x : Bool) : (s.setRunning x).h = s.h := rfl
@[simp] theorem State.setRunning_l (x : Bool) : (s.setRunning x).l = s.l := rfl
@[simp] theorem State.setRunning_sp (x : Bool) : (s.setRunning x).sp = s.sp := rfl
@[simp] theorem State.setRunning_pc (x : Bool) : (s.setRunning x).pc = s.pc := rfl
@[simp] theorem State.setRunning_flags (x : Bool) : (s.setRunning x).flags = s.flags := rfl
@[simp] theorem State.setRunning_inte (x : Bool) : (s.setRunning x).inte = s.inte := rfl
@[simp] theorem State.setRunning_halt (x : Bool) : (s.setRunning x).halt = s.halt := rfl
@[simp] theorem State.setRunning_eiShadow (x : Bool) : (s.setRunning x).eiShadow = s.eiShadow := rfl
@[simp] theorem State.setRunning_pending (x : Bool) : (s.setRunning x).pending = s.pending := rfl
@[simp] theorem State.setRunning_shift (x : Bool) : (s.setRunning x).shift = s.shift := rfl
@[simp] theorem State.setRunning_shiftOff (x : Bool) : (s.setRunning x).shiftOff = s.shiftOff := rfl
@[simp] theorem State.setRunning_dip (x : Bool) : (s.setRunning x).dip = s.dip := rfl
@[simp] theorem State.setRunning_cyc (x : Bool) : (s.setRunning x).cyc = s.cyc := rfl
@[simp] theorem State.setRunning_midFired (x : Bool) : (s.setRunning x).midFired = s.midFired := rfl
@[simp] theorem State.setRunning_frame (x : Bool) : (s.setRunning x).frame = s.frame := rfl
@[simp] theorem State.setRunning_running (x : Bool) : (s.setRunning x).running = x := rfl
@[simp] theorem State.setRunning_fault (x : Bool) : (s.setRunning x).fault = s.fault := rfl
@[simp] theorem State.setRunning_store (x : Bool) : (s.setRunning x).store = s.store := rfl
@[simp] theorem State.setRunning_outputs (x : Bool) : (s.setRunning x).outputs = s.outputs := rfl
@[simp] theorem State.setRunning_inputDraws (x : Bool) : (s.setRunning x).inputDraws = s.inputDraws := rfl
@[simp] theorem State.setRunning_reg (x : Bool) (r : Reg8) : (s.setRunning x).reg r = s.reg r := rfl
@[simp] theorem State.setRunning_pair (x : Bool) (rp : RegPair) : (s.setRunning x).pair rp = s.pair rp := rfl
@[simp] theorem State.setRunning_hl (x : Bool) : (s.setRunning x).hl = s.hl := rfl

@[simp] theorem State.setFault_cfg (x : Option FaultRecord) : (s.setFault x).cfg = s.cfg := rfl
@[simp] theorem State.setFault_a (x : Option FaultRecord) : (s.setFault x).a = s.a := rfl
@[simp] theorem State.setFault_b (x : Option FaultRecord) : (s.setFault x).b = s.b := rfl
@[simp] theorem State.setFault_c (x : Option FaultRecord) : (s.setFault x).c = s.c := rfl
@[simp] theorem State.setFault_d (x : Option FaultRecord) : (s.setFault x).d = s.d := rfl
@[simp] theorem State.setFault_e (x : Option FaultRecord) : (s.setFault x).e = s.e := rfl
@[simp] theorem State.setFault_h (x : Option FaultRecord) : (s.setFault x).h = s.h := rfl
@[simp] theorem State.setFault_l (x : Option FaultRecord) : (s.setFault x).l = s.l := rfl
@[simp] theorem State.setFault_sp (x : Option FaultRecord) : (s.setFault x).sp = s.sp := rfl
@[simp] theorem State.setFault_pc (x : Option FaultRecord) : (s.setFault x).pc = s.pc := rfl
@[simp] theorem State.setFault_flags (x : Option FaultRecord) : (s.setFault x).flags = s.flags := rfl
@[simp] theorem State.setFault_inte (x : Option FaultRecord) : (s.setFault x).inte = s.inte := rfl
@[simp] theorem State.setFault_halt (x : Option FaultRecord) : (s.setFault x).halt = s.halt := rfl
@[simp] theorem State.setFault_eiShadow (x : Option FaultRecord) : (s.setFault x).eiShadow = s.eiShadow := rfl
@[simp] theorem State.setFault_pending (x : Option FaultRecord) : (s.setFault x).pending = s.pending := rfl
@[simp] theorem State.setFault_shift (x : Option FaultRecord) : (s.setFault x).shift = s.shift := rfl
@[simp] theorem State.setFault_shiftOff (x : Option FaultRecord) : (s.setFault x).shiftOff = s.shiftOff := rfl
@[simp] theorem State.setFault_dip (x : Option FaultRecord) : (s.setFault x).dip = s.dip := rfl
@[simp] theorem State.setFault_cyc (x : Option FaultRecord) : (s.setFault x).cyc = s.cyc := rfl
@[simp] theorem State.setFault_midFired (x : Option FaultRecord) : (s.setFault x).midFired = s.midFired := rfl
@[simp] theorem State.setFault_frame (x : Option FaultRecord) : (s.setFault x).frame = s.frame := rfl
@[simp] theorem State.setFault_running (x : Option FaultRecord) : (s.setFault x).running = s.running := rfl
@[simp] theorem State.setFault_fault (x : Option FaultRecord) : (s.setFault x).fault = x := rfl
@[simp] theorem State.setFault_store (x : Option FaultRecord) : (s.setFault x).store = s.store := rfl
@[simp] theorem State.setFault_outputs (x : Option FaultRecord) : (s.setFault x).outputs = s.outputs := rfl
@[simp] theorem State.setFault_inputDraws (x : Option FaultRecord) : (s.setFault x).inputDraws = s.inputDraws := rfl
@[simp] theorem State.setFault_reg (x : Option FaultRecord) (r : Reg8) : (s.setFault x).reg r = s.reg r := rfl
@[simp] theorem State.setFault_pair (x : Option FaultRecord) (rp : RegPair) : (s.setFault x).pair rp = s.pair rp := rfl
@[simp] theorem State.setFault_hl (x : Option FaultRecord) : (s.setFault x).hl = s.hl := rfl

@[simp] theorem State.setStore_cfg (x : Memory) : (s.setStore x).cfg = s.cfg := rfl
@[simp] theorem State.setStore_a (x : Memory) : (s.setStore x).a = s.a := rfl
@[simp] theorem State.setStore_b (x : Memory) : (s.setStore x).b = s.b := rfl
@[simp] theorem State.setStore_c (x : Memory) : (s.setStore x).c = s.c := rfl
@[simp] theorem State.setStore_d (x : Memory) : (s.setStore x).d = s.d := rfl
@[simp] theorem State.setStore_e (x : Memory) : (s.setStore x).e = s.e := rfl
@[simp] theorem State.setStore_h (x : Memory) : (s.setStore x).h = s.h := rfl
@[simp] theorem State.setStore_l (x : Memory) : (s.setStore x).l = s.l := rfl
@[simp] theorem State.setStore_sp (x : Memory) : (s.setStore x).sp = s.sp := rfl
@[simp] theorem State.setStore_pc (x : Memory) : (s.setStore x).pc = s.pc := rfl
@[simp] theorem State.setStore_flags (x : Memory) : (s.setStore x).flags = s.flags := rfl
@[simp] theorem State.setStore_inte (x : Memory) : (s.setStore x).inte = s.inte := rfl
@[simp] theorem State.setStore_halt (x : Memory) : (s.setStore x).halt = s.halt := rfl
@[simp] theorem State.setStore_eiShadow (x : Memory) : (s.setStore x).eiShadow = s.eiShadow := rfl
@[simp] theorem State.setStore_pending (x : Memory) : (s.setStore x).pending = s.pending := rfl
@[simp] theorem State.setStore_shift (x : Memory) : (s.setStore x).shift = s.shift := rfl
@[simp] theorem State.setStore_shiftOff (x : Memory) : (s.setStore x).shiftOff = s.shiftOff := rfl
@[simp] theorem State.setStore_dip (x : Memory) : (s.setStore x).dip = s.dip := rfl
@[simp] theorem State.setStore_cyc (x : Memory) : (s.setStore x).cyc = s.cyc := rfl
@[simp] theorem State.setStore_midFired (x : Memory) : (s.setStore x).midFired = s.midFired := rfl
@[simp] theorem State.setStore_frame (x : Memory) : (s.setStore x).frame = s.frame := rfl
@[simp] theorem State.setStore_running (x : Memory) : (s.setStore x).running = s.running := rfl
@[simp] theorem State.setStore_fault (x : Memory) : (s.setStore x).fault = s.fault := rfl
@[simp] theorem State.setStore_store (x : Memory) : (s.setStore x).store = x := rfl
@[simp] theorem State.setStore_outputs (x : Memory) : (s.setStore x).outputs = s.outputs := rfl
@[simp] theorem State.setStore_inputDraws (x : Memory) : (s.setStore x).inputDraws = s.inputDraws := rfl
@[simp] theorem State.setStore_reg (x : Memory) (r : Reg8) : (s.setStore x).reg r = s.reg r := rfl
@[simp] theorem State.setStore_pair (x : Memory) (rp : RegPair) : (s.setStore x).pair rp = s.pair rp := rfl
@[simp] theorem State.setStore_hl (x : Memory) : (s.setStore x).hl = s.hl := rfl

@[simp] theorem State.setOutputs_cfg (x : List OutputEvent) : (s.setOutputs x).cfg = s.cfg := rfl
@[simp] theorem State.setOutputs_a (x : List OutputEvent) : (s.setOutputs x).a = s.a := rfl
@[simp] theorem State.setOutputs_b (x : List OutputEvent) : (s.setOutputs x).b = s.b := rfl
@[simp] theorem State.setOutputs_c (x : List OutputEvent) : (s.setOutputs x).c = s.c := rfl
@[simp] theorem State.setOutputs_d (x : List OutputEvent) : (s.setOutputs x).d = s.d := rfl
@[simp] theorem State.setOutputs_e (x : List OutputEvent) : (s.setOutputs x).e = s.e := rfl
@[simp] theorem State.setOutputs_h (x : List OutputEvent) : (s.setOutputs x).h = s.h := rfl
@[simp] theorem State.setOutputs_l (x : List OutputEvent) : (s.setOutputs x).l = s.l := rfl
@[simp] theorem State.setOutputs_sp (x : List OutputEvent) : (s.setOutputs x).sp = s.sp := rfl
@[simp] theorem State.setOutputs_pc (x : List OutputEvent) : (s.setOutputs x).pc = s.pc := rfl
@[simp] theorem State.setOutputs_flags (x : List OutputEvent) : (s.setOutputs x).flags = s.flags := rfl
@[simp] theorem State.setOutputs_inte (x : List OutputEvent) : (s.setOutputs x).inte = s.inte := rfl
@[simp] theorem State.setOutputs_halt (x : List OutputEvent) : (s.setOutputs x).halt = s.halt := rfl
@[simp] theorem State.setOutputs_eiShadow (x : List OutputEvent) : (s.setOutputs x).eiShadow = s.eiShadow := rfl
@[simp] theorem State.setOutputs_pending (x : List OutputEvent) : (s.setOutputs x).pending = s.pending := rfl
@[simp] theorem State.setOutputs_shift (x : List OutputEvent) : (s.setOutputs x).shift = s.shift := rfl
@[simp] theorem State.setOutputs_shiftOff (x : List OutputEvent) : (s.setOutputs x).shiftOff = s.shiftOff := rfl
@[simp] theorem State.setOutputs_dip (x : List OutputEvent) : (s.setOutputs x).dip = s.dip := rfl
@[simp] theorem State.setOutputs_cyc (x : List OutputEvent) : (s.setOutputs x).cyc = s.cyc := rfl
@[simp] theorem State.setOutputs_midFired (x : List OutputEvent) : (s.setOutputs x).midFired = s.midFired := rfl
@[simp] theorem State.setOutputs_frame (x : List OutputEvent) : (s.setOutputs x).frame = s.frame := rfl
@[simp] theorem State.setOutputs_running (x : List OutputEvent) : (s.setOutputs x).running = s.running := rfl
@[simp] theorem State.setOutputs_fault (x : List OutputEvent) : (s.setOutputs x).fault = s.fault := rfl
@[simp] theorem State.setOutputs_store (x : List OutputEvent) : (s.setOutputs x).store = s.store := rfl
@[simp] theorem State.setOutputs_outputs (x : List OutputEvent) : (s.setOutputs x).outputs = x := rfl
@[simp] theorem State.setOutputs_inputDraws (x : List OutputEvent) : (s.setOutputs x).inputDraws = s.inputDraws := rfl
@[simp] theorem State.setOutputs_reg (x : List OutputEvent) (r : Reg8) : (s.setOutputs x).reg r = s.reg r := rfl
@[simp] theorem State.setOutputs_pair (x : List OutputEvent) (rp : RegPair) : (s.setOutputs x).pair rp = s.pair rp := rfl
@[simp] theorem State.setOutputs_hl (x : List OutputEvent) : (s.setOutputs x).hl = s.hl := rfl

@[simp] theorem State.setInputDraws_cfg (x : Nat) : (s.setInputDraws x).cfg = s.cfg := rfl
@[simp] theorem State.setInputDraws_a (x : Nat) : (s.setInputDraws x).a = s.a := rfl
@[simp] theorem State.setInputDraws_b (x : Nat) : (s.setInputDraws x).b = s.b := rfl
@[simp] theorem State.setInputDraws_c (x : Nat) : (s.setInputDraws x).c = s.c := rfl
@[simp] theorem State.setInputDraws_d (x : Nat) : (s.setInputDraws x).d = s.d := rfl
@[simp] theorem State.setInputDraws_e (x : Nat) : (s.setInputDraws x).e = s.e := rfl
@[simp] theorem State.setInputDraws_h (x : Nat) : (s.setInputDraws x).h = s.h := rfl
@[simp] theorem State.setInputDraws_l (x : Nat) : (s.setInputDraws x).l = s.l := rfl
@[simp] theorem State.setInputDraws_sp (x : Nat) : (s.setInputDraws x).sp = s.sp := rfl
@[simp] theorem State.setInputDraws_pc (x : Nat) : (s.setInputDraws x).pc = s.pc := rfl
@[simp] theorem State.setInputDraws_flags (x : Nat) : (s.setInputDraws x).flags = s.flags := rfl
@[simp] theorem State.setInputDraws_inte (x : Nat) : (s.setInputDraws x).inte = s.inte := rfl
@[simp] theorem State.setInputDraws_halt (x : Nat) : (s.setInputDraws x).halt = s.halt := rfl
@[simp] theorem State.setInputDraws_eiShadow (x : Nat) : (s.setInputDraws x).eiShadow = s.eiShadow := rfl
@[simp] theorem State.setInputDraws_pending (x : Nat) : (s.setInputDraws x).pending = s.pending := rfl
@[simp] theorem State.setInputDraws_shift (x : Nat) : (s.setInputDraws x).shift = s.shift := rfl
@[simp] theorem State.setInputDraws_shiftOff (x : Nat) : (s.setInputDraws x).shiftOff = s.shiftOff := rfl
@[simp] theorem State.setInputDraws_dip (x : Nat) : (s.setInputDraws x).dip = s.dip := rfl
@[simp] theorem State.setInputDraws_cyc (x : Nat) : (s.setInputDraws x).cyc = s.cyc := rfl
@[simp] theorem State.setInputDraws_midFired (x : Nat) : (s.setInputDraws x).midFired = s.midFired := rfl
@[simp] theorem State.setInputDraws_frame (x : Nat) : (s.setInputDraws x).frame = s.frame := rfl
@[simp] theorem State.setInputDraws_running (x : Nat) : (s.setInputDraws x).running = s.running := rfl
@[simp] theorem State.setInputDraws_fault (x : Nat) : (s.setInputDraws x).fault = s.fault := rfl
@[simp] theorem State.setInputDraws_store (x : Nat) : (s.setInputDraws x).store = s.store := rfl
@[simp] theorem State.setInputDraws_outputs (x : Nat) : (s.setInputDraws x).outputs = s.outputs := rfl
@[simp] theorem State.setInputDraws_inputDraws (x : Nat) : (s.setInputDraws x).inputDraws = x := rfl
@[simp] theorem State.setInputDraws_reg (x : Nat) (r : Reg8) : (s.setInputDraws x).reg r = s.reg r := rfl
@[simp] theorem State.setInputDraws_pair (x : Nat) (rp : RegPair) : (s.setInputDraws x).pair rp = s.pair rp := rfl
@[simp] theorem State.setInputDraws_hl (x : Nat) : (s.setInputDraws x).hl = s.hl := rfl

@[simp] theorem State.setReg_cfg (r : Reg8) (v : Byte) : (s.setReg r v).cfg = s.cfg := by
  cases r <;> rfl
@[simp] theorem State.setReg_sp (r : Reg8) (v : Byte) : (s.setReg r v).sp = s.sp := by
  cases r <;> rfl
@[simp] theorem State.setReg_pc (r : Reg8) (v : Byte) : (s.setReg r v).pc = s.pc := by
  cases r <;> rfl
@[simp] theorem State.setReg_flags (r : Reg8) (v : Byte) : (s.setReg r v).flags = s.flags := by
  cases r <;> rfl
@[simp] theorem State.setReg_inte (r : Reg8) (v : Byte) : (s.setReg r v).inte = s.inte := by
  cases r <;> rfl
@[simp] theorem State.setReg_halt (r : Reg8) (v : Byte) : (s.setReg r v).halt = s.halt := by
  cases r <;> rfl
@[simp] theorem State.setReg_eiShadow (r : Reg8) (v : Byte) : (s.setReg r v).eiShadow = s.eiShadow := by
  cases r <;> rfl
@[simp] theorem State.setReg_pending (r : Reg8) (v : Byte) : (s.setReg r v).pending = s.pending := by
  cases r <;> rfl
@[simp] theorem State.setReg_shift (r : Reg8) (v : Byte) : (s.setReg r v).shift = s.shift := by
  cases r <;> rfl
@[simp] theorem State.setReg_shiftOff (r : Reg8) (v : Byte) : (s.setReg r v).shiftOff = s.shiftOff := by
  cases r <;> rfl
@[simp] theorem State.setReg_dip (r : Reg8) (v : Byte) : (s.setReg r v).dip = s.dip := by
  cases r <;> rfl
@[simp] theorem State.setReg_cyc (r : Reg8) (v : Byte) : (s.setReg r v).cyc = s.cyc := by
  cases r <;> rfl
@[simp] theorem State.setReg_midFired (r : Reg8) (v : Byte) : (s.setReg r v).midFired = s.midFired := by
  cases r <;> rfl
@[simp] theorem State.setReg_frame (r : Reg8) (v : Byte) : (s.setReg r v).frame = s.frame := by
  cases r <;> rfl
@[simp] theorem State.setReg_running (r : Reg8) (v : Byte) : (s.setReg r v).running = s.running := by
  cases r <;> rfl
@[simp] theorem State.setReg_fault (r : Reg8) (v : Byte) : (s.setReg r v).fault = s.fault := by
  cases r <;> rfl
@[simp] theorem State.setReg_store (r : Reg8) (v : Byte) : (s.setReg r v).store = s.store := by
  cases r <;> rfl
@[simp] theorem State.setReg_outputs (r : Reg8) (v : Byte) : (s.setReg r v).outputs = s.outputs := by
  cases r <;> rfl
@[simp] theorem State.setReg_inputDraws (r : Reg8) (v : Byte) : (s.setReg r v).inputDraws = s.inputDraws := by
  cases r <;> rfl
@[simp] theorem State.setReg_a (r : Reg8) (v : Byte) :
    (s.setReg r v).a = if r = .a then v else s.a := by
  cases r <;> rfl
@[simp] theorem State.setReg_b (r : Reg8) (v : Byte) :
    (s.setReg r v).b = if r = .b then v else s.b := by
  cases r <;> rfl
@[simp] theorem State.setReg_c (r : Reg8) (v : Byte) :
    (s.setReg r v).c = if r = .c then v else s.c := by
  cases r <;> rfl
@[simp] theorem State.setReg_d (r : Reg8) (v : Byte) :
    (s.setReg r v).d = if r = .d then v else s.d := by
  cases r <;> rfl
@[simp] theorem State.setReg_e (r : Reg8) (v : Byte) :
    (s.setReg r v).e = if r = .e then v else s.e := by
  cases r <;> rfl
@[simp] theorem State.setReg_h (r : Reg8) (v : Byte) :
    (s.setReg r v).h = if r = .h then v else s.h := by
  cases r <;> rfl
@[simp] theorem State.setReg_l (r : Reg8) (v : Byte) :
    (s.setReg r v).l = if r = .l then v else s.l := by
  cases r <;> rfl
@[simp] theorem State.setReg_reg (r r' : Reg8) (v : Byte) :
    (s.setReg r v).reg r' = if r' = r then v else s.reg r' := by
  cases r <;> cases r' <;> rfl

@[simp] theorem State.setPair_cfg (rp : RegPair) (w : Word) : (s.setPair rp w).cfg = s.cfg := by
  cases rp <;> rfl
@[simp] theorem State.setPair_pc (rp : RegPair) (w : Word) : (s.setPair rp w).pc = s.pc := by
  cases rp <;> rfl
@[simp] theorem State.setPair_flags (rp : RegPair) (w : Word) : (s.setPair rp w).flags = s.flags := by
  cases rp <;> rfl
@[simp] theorem State.setPair_inte (rp : RegPair) (w : Word) : (s.setPair rp w).inte = s.inte := by
  cases rp <;> rfl
@[simp] theorem State.setPair_halt (rp : RegPair) (w : Word) : (s.setPair rp w).halt = s.halt := by
  cases rp <;> rfl
@[simp] theorem State.setPair_eiShadow (rp : RegPair) (w : Word) : (s.setPair rp w).eiShadow = s.eiShadow := by
  cases rp <;> rfl
@[simp] theorem State.setPair_pending (rp : RegPair) (w : Word) : (s.setPair rp w).pending = s.pending := by
  cases rp <;> rfl
@[simp] theorem State.setPair_shift (rp : RegPair) (w : Word) : (s.setPair rp w).shift = s.shift := by
  cases rp <;> rfl
@[simp] theorem State.setPair_shiftOff (rp : RegPair) (w : Word) : (s.setPair rp w).shiftOff = s.shiftOff := by
  cases rp <;> rfl
@[simp] theorem State.setPair_dip (rp : RegPair) (w : Word) : (s.setPair rp w).dip = s.dip := by
  cases rp <;> rfl
@[simp] theorem State.setPair_cyc (rp : RegPair) (w : Word) : (s.setPair rp w).cyc = s.cyc := by
  cases rp <;> rfl
@[simp] theorem State.setPair_midFired (rp : RegPair) (w : Word) : (s.setPair rp w).midFired = s.midFired := by
  cases rp <;> rfl
@[simp] theorem State.setPair_frame (rp : RegPair) (w : Word) : (s.setPair rp w).frame = s.frame := by
  cases rp <;> rfl
@[simp] theorem State.setPair_running (rp : RegPair) (w : Word) : (s.setPair rp w).running = s.running := by
  cases rp <;> rfl
@[simp] theorem State.setPair_fault (rp : RegPair) (w : Word) : (s.setPair rp w).fault = s.fault := by
  cases rp <;> rfl
@[simp] theorem State.setPair_store (rp : RegPair) (w : Word) : (s.setPair rp w).store = s.store := by
  cases rp <;> rfl
@[simp] theorem State.setPair_outputs (rp : RegPair) (w : Word) : (s.setPair rp w).outputs = s.outputs := by
  cases rp <;> rfl
@[simp] theorem State.setPair_inputDraws (rp : RegPair) (w : Word) : (s.setPair rp w).inputDraws = s.inputDraws := by
  cases rp <;> rfl
@[simp] theorem State.setPair_sp (rp : RegPair) (w : Word) :
    (s.setPair rp w).sp = if rp = .sp then w else s.sp := by
  cases rp <;> rfl
@[simp] theorem State.setPair_a (rp : RegPair) (w : Word) : (s.setPair rp w).a = s.a := by
  cases rp <;> rfl

/-! The bytes of a word. -/

theorem joinBytes_toNat (hi lo : Byte) : (joinBytes hi lo).toNat = hi.toNat * 256 + lo.toNat := by
  have h : hi.toNat <<< 8 ||| lo.toNat = hi.toNat <<< 8 + lo.toNat :=
    (Nat.shiftLeft_add_eq_or_of_lt (by omega) _).symm
  simp only [joinBytes]
  rw [BitVec.toNat_append, h, Nat.shiftLeft_eq]

@[simp] theorem highByte_joinBytes (hi lo : Byte) : highByte (joinBytes hi lo) = hi := by
  apply BitVec.eq_of_toNat_eq
  simp only [highByte, BitVec.toNat_setWidth, BitVec.toNat_ushiftRight, joinBytes_toNat,
    Nat.shiftRight_eq_div_pow]
  omega

@[simp] theorem lowByte_joinBytes (hi lo : Byte) : lowByte (joinBytes hi lo) = lo := by
  apply BitVec.eq_of_toNat_eq
  simp only [lowByte, BitVec.toNat_setWidth, joinBytes_toNat]
  omega

@[simp] theorem joinBytes_high_low (w : Word) : joinBytes (highByte w) (lowByte w) = w := by
  apply BitVec.eq_of_toNat_eq
  rw [joinBytes_toNat]
  simp [highByte, lowByte, Nat.shiftRight_eq_div_pow]
  omega

/-- Reading a pair after writing a pair (R31). -/
@[simp] theorem State.setPair_pair (rp rp' : RegPair) (w : Word) :
    (s.setPair rp w).pair rp' = if rp' = rp then w else s.pair rp' := by
  cases rp <;> cases rp' <;> simp [State.pair, State.setPair]

end Sys2Proof.Machine
end

