-- ==== Sys2Proof/Laws/Memory.lean ====
section
/-! SUPPORT. The laws of the backing store: the canonical form is kept, and a read after a write. -/

namespace Sys2Proof.Machine

@[simp] theorem Memory.read_nil (k : Nat) : Memory.read [] k = Memory.unlisted k := rfl

theorem Memory.read_cons (k : Nat) (v : Byte) (rest : Memory) (k' : Nat)
    (h : ∀ x ∈ rest, k < x.1) :
    Memory.read (Memory.cons k v rest) k' = if k' = k then v else Memory.read rest k' := by
  unfold Memory.cons
  by_cases hv : v = Memory.unlisted k
  · rw [if_pos hv]
    by_cases hk : k' = k
    · subst hk
      rw [if_pos rfl, hv]
      clear hv
      induction rest with
      | nil => rfl
      | cons x rest ih =>
        have hx := h x (by simp)
        simp only [Memory.read]
        rw [if_neg (by omega)]
        exact ih fun y hy => h y (by simp [hy])
    · rw [if_neg hk]
  · rw [if_neg hv]
    rfl

/-- A write leaves every other offset, in any list of cells. -/
theorem Memory.read_write_of_ne (m : Memory) (k k' : Nat) (v : Byte) (hk : k' ≠ k) :
    Memory.read (Memory.write m k v) k' = Memory.read m k' := by
  have hcons : ∀ rest : Memory, Memory.read (Memory.cons k v rest) k' = Memory.read rest k' := by
    intro rest
    unfold Memory.cons
    split
    · rfl
    · simp only [Memory.read, if_neg hk]
  induction m with
  | nil => exact hcons []
  | cons x rest ih =>
    simp only [Memory.write]
    split
    · exact hcons _
    · split
      · next h => subst h; rw [hcons]; simp only [Memory.read, if_neg hk]
      · simp only [Memory.read, ih]

/-- A write to a canonical store is read back. -/
theorem Memory.read_write_same (m : Memory) (k : Nat) (v : Byte) (hm : Memory.wf m) :
    Memory.read (Memory.write m k v) k = v := by
  induction m with
  | nil =>
    show Memory.read (Memory.cons k v []) k = v
    rw [Memory.read_cons k v [] k (by simp), if_pos rfl]
  | cons x rest ih =>
    obtain ⟨hp, hne⟩ := hm
    have hp' := List.pairwise_cons.mp hp
    simp only [Memory.write]
    split
    · next h =>
      rw [Memory.read_cons, if_pos rfl]
      intro y hy
      rcases List.mem_cons.mp hy with rfl | hy
      · exact h
      · exact Nat.lt_trans h (hp'.1 y hy)
    · split
      · next h => subst h; rw [Memory.read_cons _ _ _ _ hp'.1, if_pos rfl]
      · next h =>
        simp only [Memory.read, if_neg h]
        exact ih ⟨hp'.2, fun y hy => hne y (by simp [hy])⟩

theorem Memory.read_write (m : Memory) (k k' : Nat) (v : Byte) (hm : Memory.wf m) :
    Memory.read (Memory.write m k v) k' = if k' = k then v else Memory.read m k' := by
  by_cases h : k' = k
  · subst h; rw [if_pos rfl, Memory.read_write_same m k' v hm]
  · rw [if_neg h, Memory.read_write_of_ne m k k' v h]

/-- The cells after a write are the old ones and the one written. -/
theorem Memory.mem_write {m : Memory} {k : Nat} {v : Byte} {x : Host.Cell}
    (h : x ∈ Memory.write m k v) : x = (k, v) ∨ x ∈ m := by
  have hcons : ∀ rest : Memory, x ∈ Memory.cons k v rest → x = (k, v) ∨ x ∈ rest := by
    intro rest hx
    unfold Memory.cons at hx
    split at hx
    · exact .inr hx
    · exact (List.mem_cons.mp hx)
  induction m with
  | nil => exact hcons [] h
  | cons y rest ih =>
    simp only [Memory.write] at h
    split at h
    · exact hcons _ h
    · split at h
      · rcases hcons _ h with h | h
        · exact .inl h
        · exact .inr (by simp [h])
      · rcases List.mem_cons.mp h with rfl | h
        · exact .inr (by simp)
        · rcases ih h with h | h
          · exact .inl h
          · exact .inr (by simp [h])

theorem Memory.cons_wf {k : Nat} {v : Byte} {rest : Memory} (hr : Memory.wf rest)
    (h : ∀ x ∈ rest, k < x.1) : Memory.wf (Memory.cons k v rest) := by
  unfold Memory.cons
  split
  · exact hr
  · next hv =>
    refine ⟨List.pairwise_cons.mpr ⟨h, hr.1⟩, fun x hx => ?_⟩
    rcases List.mem_cons.mp hx with rfl | hx
    · exact hv
    · exact hr.2 x hx

/-- Every write keeps the canonical form. -/
theorem Memory.write_wf {m : Memory} (k : Nat) (v : Byte) (hm : Memory.wf m) :
    Memory.wf (Memory.write m k v) := by
  induction m with
  | nil => exact Memory.cons_wf ⟨List.Pairwise.nil, by simp⟩ (by simp)
  | cons x rest ih =>
    obtain ⟨hp, hne⟩ := hm
    have hp' := List.pairwise_cons.mp hp
    have hrest : Memory.wf rest := ⟨hp'.2, fun y hy => hne y (by simp [hy])⟩
    simp only [Memory.write]
    split
    · next h =>
      refine Memory.cons_wf ⟨hp, hne⟩ fun y hy => ?_
      rcases List.mem_cons.mp hy with rfl | hy
      · exact h
      · exact Nat.lt_trans h (hp'.1 y hy)
    · split
      · next h => subst h; exact Memory.cons_wf hrest hp'.1
      · next h1 h2 =>
        have ih := ih hrest
        refine ⟨List.pairwise_cons.mpr ⟨fun y hy => ?_, ih.1⟩, fun y hy => ?_⟩
        · rcases Memory.mem_write hy with rfl | hy
          · simp only; omega
          · exact hp'.1 y hy
        · rcases List.mem_cons.mp hy with rfl | hy
          · exact hne _ (by simp)
          · exact ih.2 y hy

theorem State.reset_store_wf : Memory.wf State.reset.store := by decide

end Sys2Proof.Machine
end

