-- ==== Sys2Proof/Laws/Ops.lean ====
section
/-! SUPPORT. One lemma per shared operation: everything it can do when it answers a next state, and what
it does where its access succeeds or faults. -/

namespace Sys2Proof.Machine

variable {α : Type} {s s' : State} {addr : Word} {v : Byte} {x : α}

@[simp] theorem raise_ne_next (s : State) (r : FaultRecord) (x : α) : raise s r ≠ .next x := by
  simp [raise]

@[simp] theorem raise_ne_refused (s : State) (r : FaultRecord) (q : Refusal) :
    (raise s r : Host.Outcome α Fault Refusal) ≠ .refused q := by
  simp [raise]

@[simp] theorem FaultRecord.toFault_final (r : FaultRecord) (s : State) : (r.toFault s).final = s := by
  cases r <;> rfl

/-- A fault's final state is the state it was raised in, with FAULT set. -/
theorem raise_eq_fault {r : FaultRecord} {f : Fault}
    (h : (raise s r : Host.Outcome α Fault Refusal) = .fault f) :
    f = r.toFault (s.setFault (some r)) := by
  simpa [raise, eq_comm] using h

/-- Reading depends on the parameters and the store alone. -/
theorem memRead_congr (hc : s'.cfg = s.cfg) (hs : s'.store = s.store) :
    memRead s' addr = memRead s addr := by
  simp [memRead, hc, hs]

/-- Everything a completed write can have done: nothing (ROM under `ignore`), or one byte of RAM. -/
theorem memWrite_ok (h : memWrite s addr v = .ok s') :
    (resolveWrite s.cfg addr = .rejected ∧ s.cfg.romWritePolicy = .ignore ∧ s' = s) ∨
    ∃ off, resolveWrite s.cfg addr = .found off ∧ off < s.cfg.storeSize ∧
      s' = s.setStore (Memory.write s.store off v) := by
  unfold memWrite at h
  split at h
  · cases h
  · next hr =>
    split at h
    · cases h
    · next hp => cases h; exact .inl ⟨hr, hp, rfl⟩
  · next off hr =>
    split at h
    · next hlt => cases h; exact .inr ⟨off, hr, hlt, rfl⟩
    · cases h

/-- A write to RAM completes. -/
theorem memWrite_ram {off : Nat} (h : resolveWrite s.cfg addr = .found off)
    (hlt : off < s.cfg.storeSize) :
    memWrite s addr v = .ok (s.setStore (Memory.write s.store off v)) := by
  simp [memWrite, h, hlt]

/-- An address written is resolved to the same offset by a read. -/
theorem resolveRead_of_found {cfg : Config} {off : Nat} (h : resolveWrite cfg addr = .found off) :
    resolveRead cfg addr = some off := by
  unfold resolveWrite at h
  unfold resolveRead
  split at h
  · cases h
  · next ch hf =>
    rw [hf]
    split at h
    · cases h
    · injection h with h; simp [h]

/-- A read of an address with a byte behind it completes. -/
theorem memRead_found {off : Nat} (h : resolveRead s.cfg addr = some off)
    (hlt : off < s.cfg.storeSize) : memRead s addr = .ok (Memory.read s.store off) := by
  simp [memRead, h, hlt]

theorem readThen_ok {k : Byte → Host.Outcome α Fault Refusal} (h : memRead s addr = .ok v) :
    readThen s addr k = k v := by
  simp [readThen, h]

theorem readThen_error {k : Byte → Host.Outcome α Fault Refusal} {r : FaultRecord}
    (h : memRead s addr = .error r) : readThen s addr k = raise s r := by
  simp [readThen, h]

theorem readThen_next {k : Byte → Host.Outcome α Fault Refusal} (h : readThen s addr k = .next x) :
    ∃ v, memRead s addr = .ok v ∧ k v = .next x := by
  unfold readThen at h
  split at h
  · next v hv => exact ⟨v, hv, h⟩
  · exact absurd h (raise_ne_next _ _ _)

theorem writeThen_ok {k : State → Host.Outcome α Fault Refusal} (h : memWrite s addr v = .ok s') :
    writeThen s addr v k = k s' := by
  simp [writeThen, h]

theorem writeThen_error {k : State → Host.Outcome α Fault Refusal} {r : FaultRecord}
    (h : memWrite s addr v = .error r) : writeThen s addr v k = raise s r := by
  simp [writeThen, h]

theorem writeThen_next {k : State → Host.Outcome α Fault Refusal}
    (h : writeThen s addr v k = .next x) :
    ∃ s1, memWrite s addr v = .ok s1 ∧ k s1 = .next x := by
  unfold writeThen at h
  split at h
  · next s1 hs => exact ⟨s1, hs, h⟩
  · exact absurd h (raise_ne_next _ _ _)

theorem readWordThen_next {k : Word → Host.Outcome α Fault Refusal}
    (h : readWordThen s addr k = .next x) :
    ∃ lo hi, memRead s addr = .ok lo ∧ memRead s (addr + 1) = .ok hi ∧
      k (joinBytes hi lo) = .next x := by
  obtain ⟨lo, hlo, h⟩ := readThen_next h
  obtain ⟨hi, hhi, h⟩ := readThen_next h
  exact ⟨lo, hi, hlo, hhi, h⟩

theorem writeWordThen_next {w : Word} {k : State → Host.Outcome α Fault Refusal}
    (h : writeWordThen s addr w k = .next x) :
    ∃ s1 s2, memWrite s addr (lowByte w) = .ok s1 ∧
      memWrite s1 (addr + 1) (highByte w) = .ok s2 ∧ k s2 = .next x := by
  obtain ⟨s1, h1, h⟩ := writeThen_next h
  obtain ⟨s2, h2, h⟩ := writeThen_next h
  exact ⟨s1, s2, h1, h2, h⟩

theorem push16_next {w : Word} {k : State → Host.Outcome α Fault Refusal}
    (h : push16 s w k = .next x) :
    ∃ s1 s2, memWrite s (s.sp - 1) (highByte w) = .ok s1 ∧
      memWrite s1 (s.sp - 2) (lowByte w) = .ok s2 ∧ k (s2.setSp (s.sp - 2)) = .next x := by
  obtain ⟨s1, h1, h⟩ := writeThen_next h
  obtain ⟨s2, h2, h⟩ := writeThen_next h
  exact ⟨s1, s2, h1, h2, h⟩

/-- A push whose two writes complete. -/
theorem push16_ok {w : Word} {k : State → Host.Outcome α Fault Refusal} {s1 s2 : State}
    (h1 : memWrite s (s.sp - 1) (highByte w) = .ok s1)
    (h2 : memWrite s1 (s.sp - 2) (lowByte w) = .ok s2) :
    push16 s w k = k (s2.setSp (s.sp - 2)) := by
  unfold push16
  rw [writeThen_ok h1, writeThen_ok h2]

/-- A push whose two bytes are in RAM. -/
theorem push16_ram {w : Word} {k : State → Host.Outcome α Fault Refusal} {hiOff loOff : Nat}
    (hHi : resolveWrite s.cfg (s.sp - 1) = .found hiOff) (hHi' : hiOff < s.cfg.storeSize)
    (hLo : resolveWrite s.cfg (s.sp - 2) = .found loOff) (hLo' : loOff < s.cfg.storeSize) :
    push16 s w k = k ((s.setStore (Memory.write (Memory.write s.store hiOff (highByte w)) loOff
      (lowByte w))).setSp (s.sp - 2)) := by
  have hLo2 : resolveWrite (s.setStore (Memory.write s.store hiOff (highByte w))).cfg (s.sp - 2) =
      .found loOff := hLo
  exact push16_ok (memWrite_ram hHi hHi') (memWrite_ram hLo2 hLo')

theorem pop16_next {k : Word → State → Host.Outcome α Fault Refusal} (h : pop16 s k = .next x) :
    ∃ lo hi, memRead s s.sp = .ok lo ∧ memRead s (s.sp + 1) = .ok hi ∧
      k (joinBytes hi lo) (s.setSp (s.sp + 2)) = .next x := by
  obtain ⟨lo, hlo, h⟩ := readThen_next h
  obtain ⟨hi, hhi, h⟩ := readThen_next h
  exact ⟨lo, hi, hlo, hhi, h⟩

/-- A pop whose two bytes can be read. -/
theorem pop16_ok {k : Word → State → Host.Outcome α Fault Refusal} {lo hi : Byte}
    (hLo : memRead s s.sp = .ok lo) (hHi : memRead s (s.sp + 1) = .ok hi) :
    pop16 s k = k (joinBytes hi lo) (s.setSp (s.sp + 2)) := by
  unfold pop16
  rw [readThen_ok hLo, readThen_ok hHi]

theorem readOperand_next {o : Operand8} {k : Byte → Out} (h : readOperand s o k = .next s') :
    ∃ v, (o = .m → memRead s s.hl = .ok v) ∧ (∀ r, o = .reg r → v = s.reg r) ∧ k v = .next s' := by
  cases o with
  | reg r => exact ⟨s.reg r, by simp, by simp, h⟩
  | m =>
    obtain ⟨v, hv, h⟩ := readThen_next h
    exact ⟨v, fun _ => hv, by simp, h⟩

theorem writeOperand_next {o : Operand8} {k : State → Out} (h : writeOperand s o v k = .next s') :
    ∃ s1, (o = .m → memWrite s s.hl v = .ok s1) ∧ (∀ r, o = .reg r → s1 = s.setReg r v) ∧
      k s1 = .next s' := by
  cases o with
  | reg r => exact ⟨s.setReg r v, by simp, by simp, h⟩
  | m =>
    obtain ⟨s1, h1, h⟩ := writeThen_next h
    exact ⟨s1, fun _ => h1, by simp, h⟩

/-- Everything an acceptance can have done: HALT and INTE cleared, PC pushed, PC at the entry point. -/
theorem accept_next {n : BitVec 3} {y : State × Nat} (h : accept n s = .next y) :
    ∃ s1 s2, memWrite ((s.setHalt false).setInte false) (s.sp - 1) (highByte s.pc) = .ok s1 ∧
      memWrite s1 (s.sp - 2) (lowByte s.pc) = .ok s2 ∧
      y = ((s2.setSp (s.sp - 2)).setPc (restartTarget n), 11) := by
  obtain ⟨s1, s2, h1, h2, h⟩ := push16_next h
  injection h with h
  exact ⟨s1, s2, h1, h2, h.symm⟩

/-- Everything an offer can have done when it answers: nothing, a hold in PENDING, or an acceptance. -/
theorem interrupt_next {n : Nat} {y : State × Nat} (h : interrupt n s = .next y) :
    n < 8 ∧ ((y = (s, 0)) ∨
      (s.eiShadow = true ∧ s.pending = none ∧ y = (s.setPending (some (BitVec.ofNat 3 n)), 0)) ∨
      (s.inte = true ∧ s.eiShadow = false ∧ accept (BitVec.ofNat 3 n) s = .next y)) := by
  unfold interrupt at h
  split at h
  · exact absurd h (raise_ne_next _ _ _)
  · next hn =>
    refine ⟨by omega, ?_⟩
    split at h
    · injection h with h; exact .inl h.symm
    · split at h
      · injection h with h; exact .inl h.symm
      · next hi =>
        split at h
        · next hsh =>
          injection h with h
          by_cases hp : s.pending = none
          · rw [if_pos hp] at h; exact .inr (.inl ⟨hsh, hp, h.symm⟩)
          · rw [if_neg hp] at h; exact .inl h.symm
        · next hsh => exact .inr (.inr ⟨by simpa using hi, by simpa using hsh, h⟩)

/-- A mid-frame offer goes on from the state as it is, or from the state after the offer. -/
theorem charge_next {o : StepOut} {k : State → Out} (h : charge o k = .next s') :
    ∃ s1 n, o = .next (s1, n) ∧ k (s1.setCyc (s1.cyc + n)) = .next s' := by
  unfold charge at h
  split at h
  · next s1 n => exact ⟨s1, n, rfl, h⟩
  · cases h
  · cases h

end Sys2Proof.Machine
end

