-- ==== Sys2Proof/Laws/PerInstr.lean ====
section
/-! SUPPORT. Per instruction: the encoder's size is the size the opcode map declares for the
instruction's opcode (spec 30_encoding.md R131, 70_reset_and_hazards.md R378). -/

namespace Sys2Proof.Laws.Size

/-- The size an instruction encodes to is the declared size of its opcode's row. -/
def Statement (i : Instr) : Prop := i.size = (rowOf i.opcode).size

theorem inxB : Statement .inxB := by show 1 = (rowOf 0x03).size; rfl
theorem inrB : Statement .inrB := by show 1 = (rowOf 0x04).size; rfl
theorem dcrB : Statement .dcrB := by show 1 = (rowOf 0x05).size; rfl
theorem dadB : Statement .dadB := by show 1 = (rowOf 0x09).size; rfl
theorem dcxB : Statement .dcxB := by show 1 = (rowOf 0x0B).size; rfl
theorem inrC : Statement .inrC := by show 1 = (rowOf 0x0C).size; rfl
theorem dcrC : Statement .dcrC := by show 1 = (rowOf 0x0D).size; rfl
theorem inxD : Statement .inxD := by show 1 = (rowOf 0x13).size; rfl
theorem inrD : Statement .inrD := by show 1 = (rowOf 0x14).size; rfl
theorem dcrD : Statement .dcrD := by show 1 = (rowOf 0x15).size; rfl
theorem dadD : Statement .dadD := by show 1 = (rowOf 0x19).size; rfl
theorem dcxD : Statement .dcxD := by show 1 = (rowOf 0x1B).size; rfl
theorem inrE : Statement .inrE := by show 1 = (rowOf 0x1C).size; rfl
theorem dcrE : Statement .dcrE := by show 1 = (rowOf 0x1D).size; rfl
theorem inxH : Statement .inxH := by show 1 = (rowOf 0x23).size; rfl
theorem inrH : Statement .inrH := by show 1 = (rowOf 0x24).size; rfl
theorem dcrH : Statement .dcrH := by show 1 = (rowOf 0x25).size; rfl
theorem daa : Statement .daa := by show 1 = (rowOf 0x27).size; rfl
theorem dadH : Statement .dadH := by show 1 = (rowOf 0x29).size; rfl
theorem dcxH : Statement .dcxH := by show 1 = (rowOf 0x2B).size; rfl
theorem inrL : Statement .inrL := by show 1 = (rowOf 0x2C).size; rfl
theorem dcrL : Statement .dcrL := by show 1 = (rowOf 0x2D).size; rfl
theorem inxSP : Statement .inxSP := by show 1 = (rowOf 0x33).size; rfl
theorem inrM : Statement .inrM := by show 1 = (rowOf 0x34).size; rfl
theorem dcrM : Statement .dcrM := by show 1 = (rowOf 0x35).size; rfl
theorem dadSP : Statement .dadSP := by show 1 = (rowOf 0x39).size; rfl
theorem dcxSP : Statement .dcxSP := by show 1 = (rowOf 0x3B).size; rfl
theorem inrA : Statement .inrA := by show 1 = (rowOf 0x3C).size; rfl
theorem dcrA : Statement .dcrA := by show 1 = (rowOf 0x3D).size; rfl
theorem addB : Statement .addB := by show 1 = (rowOf 0x80).size; rfl
theorem addC : Statement .addC := by show 1 = (rowOf 0x81).size; rfl
theorem addD : Statement .addD := by show 1 = (rowOf 0x82).size; rfl
theorem addE : Statement .addE := by show 1 = (rowOf 0x83).size; rfl
theorem addH : Statement .addH := by show 1 = (rowOf 0x84).size; rfl
theorem addL : Statement .addL := by show 1 = (rowOf 0x85).size; rfl
theorem addM : Statement .addM := by show 1 = (rowOf 0x86).size; rfl
theorem addA : Statement .addA := by show 1 = (rowOf 0x87).size; rfl
theorem adcB : Statement .adcB := by show 1 = (rowOf 0x88).size; rfl
theorem adcC : Statement .adcC := by show 1 = (rowOf 0x89).size; rfl
theorem adcD : Statement .adcD := by show 1 = (rowOf 0x8A).size; rfl
theorem adcE : Statement .adcE := by show 1 = (rowOf 0x8B).size; rfl
theorem adcH : Statement .adcH := by show 1 = (rowOf 0x8C).size; rfl
theorem adcL : Statement .adcL := by show 1 = (rowOf 0x8D).size; rfl
theorem adcM : Statement .adcM := by show 1 = (rowOf 0x8E).size; rfl
theorem adcA : Statement .adcA := by show 1 = (rowOf 0x8F).size; rfl
theorem subB : Statement .subB := by show 1 = (rowOf 0x90).size; rfl
theorem subC : Statement .subC := by show 1 = (rowOf 0x91).size; rfl
theorem subD : Statement .subD := by show 1 = (rowOf 0x92).size; rfl
theorem subE : Statement .subE := by show 1 = (rowOf 0x93).size; rfl
theorem subH : Statement .subH := by show 1 = (rowOf 0x94).size; rfl
theorem subL : Statement .subL := by show 1 = (rowOf 0x95).size; rfl
theorem subM : Statement .subM := by show 1 = (rowOf 0x96).size; rfl
theorem subA : Statement .subA := by show 1 = (rowOf 0x97).size; rfl
theorem sbbB : Statement .sbbB := by show 1 = (rowOf 0x98).size; rfl
theorem sbbC : Statement .sbbC := by show 1 = (rowOf 0x99).size; rfl
theorem sbbD : Statement .sbbD := by show 1 = (rowOf 0x9A).size; rfl
theorem sbbE : Statement .sbbE := by show 1 = (rowOf 0x9B).size; rfl
theorem sbbH : Statement .sbbH := by show 1 = (rowOf 0x9C).size; rfl
theorem sbbL : Statement .sbbL := by show 1 = (rowOf 0x9D).size; rfl
theorem sbbM : Statement .sbbM := by show 1 = (rowOf 0x9E).size; rfl
theorem sbbA : Statement .sbbA := by show 1 = (rowOf 0x9F).size; rfl
theorem adi (v : Byte) : Statement (.adi v) := by show 2 = (rowOf 0xC6).size; rfl
theorem aci (v : Byte) : Statement (.aci v) := by show 2 = (rowOf 0xCE).size; rfl
theorem sui (v : Byte) : Statement (.sui v) := by show 2 = (rowOf 0xD6).size; rfl
theorem sbi (v : Byte) : Statement (.sbi v) := by show 2 = (rowOf 0xDE).size; rfl
theorem rlc : Statement .rlc := by show 1 = (rowOf 0x07).size; rfl
theorem rrc : Statement .rrc := by show 1 = (rowOf 0x0F).size; rfl
theorem ral : Statement .ral := by show 1 = (rowOf 0x17).size; rfl
theorem rar : Statement .rar := by show 1 = (rowOf 0x1F).size; rfl
theorem cma : Statement .cma := by show 1 = (rowOf 0x2F).size; rfl
theorem stc : Statement .stc := by show 1 = (rowOf 0x37).size; rfl
theorem cmc : Statement .cmc := by show 1 = (rowOf 0x3F).size; rfl
theorem anaB : Statement .anaB := by show 1 = (rowOf 0xA0).size; rfl
theorem anaC : Statement .anaC := by show 1 = (rowOf 0xA1).size; rfl
theorem anaD : Statement .anaD := by show 1 = (rowOf 0xA2).size; rfl
theorem anaE : Statement .anaE := by show 1 = (rowOf 0xA3).size; rfl
theorem anaH : Statement .anaH := by show 1 = (rowOf 0xA4).size; rfl
theorem anaL : Statement .anaL := by show 1 = (rowOf 0xA5).size; rfl
theorem anaM : Statement .anaM := by show 1 = (rowOf 0xA6).size; rfl
theorem anaA : Statement .anaA := by show 1 = (rowOf 0xA7).size; rfl
theorem xraB : Statement .xraB := by show 1 = (rowOf 0xA8).size; rfl
theorem xraC : Statement .xraC := by show 1 = (rowOf 0xA9).size; rfl
theorem xraD : Statement .xraD := by show 1 = (rowOf 0xAA).size; rfl
theorem xraE : Statement .xraE := by show 1 = (rowOf 0xAB).size; rfl
theorem xraH : Statement .xraH := by show 1 = (rowOf 0xAC).size; rfl
theorem xraL : Statement .xraL := by show 1 = (rowOf 0xAD).size; rfl
theorem xraM : Statement .xraM := by show 1 = (rowOf 0xAE).size; rfl
theorem xraA : Statement .xraA := by show 1 = (rowOf 0xAF).size; rfl
theorem oraB : Statement .oraB := by show 1 = (rowOf 0xB0).size; rfl
theorem oraC : Statement .oraC := by show 1 = (rowOf 0xB1).size; rfl
theorem oraD : Statement .oraD := by show 1 = (rowOf 0xB2).size; rfl
theorem oraE : Statement .oraE := by show 1 = (rowOf 0xB3).size; rfl
theorem oraH : Statement .oraH := by show 1 = (rowOf 0xB4).size; rfl
theorem oraL : Statement .oraL := by show 1 = (rowOf 0xB5).size; rfl
theorem oraM : Statement .oraM := by show 1 = (rowOf 0xB6).size; rfl
theorem oraA : Statement .oraA := by show 1 = (rowOf 0xB7).size; rfl
theorem cmpB : Statement .cmpB := by show 1 = (rowOf 0xB8).size; rfl
theorem cmpC : Statement .cmpC := by show 1 = (rowOf 0xB9).size; rfl
theorem cmpD : Statement .cmpD := by show 1 = (rowOf 0xBA).size; rfl
theorem cmpE : Statement .cmpE := by show 1 = (rowOf 0xBB).size; rfl
theorem cmpH : Statement .cmpH := by show 1 = (rowOf 0xBC).size; rfl
theorem cmpL : Statement .cmpL := by show 1 = (rowOf 0xBD).size; rfl
theorem cmpM : Statement .cmpM := by show 1 = (rowOf 0xBE).size; rfl
theorem cmpA : Statement .cmpA := by show 1 = (rowOf 0xBF).size; rfl
theorem ani (v : Byte) : Statement (.ani v) := by show 2 = (rowOf 0xE6).size; rfl
theorem xri (v : Byte) : Statement (.xri v) := by show 2 = (rowOf 0xEE).size; rfl
theorem ori (v : Byte) : Statement (.ori v) := by show 2 = (rowOf 0xF6).size; rfl
theorem cpi (v : Byte) : Statement (.cpi v) := by show 2 = (rowOf 0xFE).size; rfl
theorem rnz : Statement .rnz := by show 1 = (rowOf 0xC0).size; rfl
theorem jnz (w : Word) : Statement (.jnz w) := by show 3 = (rowOf 0xC2).size; rfl
theorem jmp (w : Word) : Statement (.jmp w) := by show 3 = (rowOf 0xC3).size; rfl
theorem cnz (w : Word) : Statement (.cnz w) := by show 3 = (rowOf 0xC4).size; rfl
theorem rst0 : Statement .rst0 := by show 1 = (rowOf 0xC7).size; rfl
theorem rz : Statement .rz := by show 1 = (rowOf 0xC8).size; rfl
theorem ret : Statement .ret := by show 1 = (rowOf 0xC9).size; rfl
theorem jz (w : Word) : Statement (.jz w) := by show 3 = (rowOf 0xCA).size; rfl
theorem cz (w : Word) : Statement (.cz w) := by show 3 = (rowOf 0xCC).size; rfl
theorem call (w : Word) : Statement (.call w) := by show 3 = (rowOf 0xCD).size; rfl
theorem rst1 : Statement .rst1 := by show 1 = (rowOf 0xCF).size; rfl
theorem rnc : Statement .rnc := by show 1 = (rowOf 0xD0).size; rfl
theorem jnc (w : Word) : Statement (.jnc w) := by show 3 = (rowOf 0xD2).size; rfl
theorem cnc (w : Word) : Statement (.cnc w) := by show 3 = (rowOf 0xD4).size; rfl
theorem rst2 : Statement .rst2 := by show 1 = (rowOf 0xD7).size; rfl
theorem rc : Statement .rc := by show 1 = (rowOf 0xD8).size; rfl
theorem jc (w : Word) : Statement (.jc w) := by show 3 = (rowOf 0xDA).size; rfl
theorem cc (w : Word) : Statement (.cc w) := by show 3 = (rowOf 0xDC).size; rfl
theorem rst3 : Statement .rst3 := by show 1 = (rowOf 0xDF).size; rfl
theorem rpo : Statement .rpo := by show 1 = (rowOf 0xE0).size; rfl
theorem jpo (w : Word) : Statement (.jpo w) := by show 3 = (rowOf 0xE2).size; rfl
theorem cpo (w : Word) : Statement (.cpo w) := by show 3 = (rowOf 0xE4).size; rfl
theorem rst4 : Statement .rst4 := by show 1 = (rowOf 0xE7).size; rfl
theorem rpe : Statement .rpe := by show 1 = (rowOf 0xE8).size; rfl
theorem pchl : Statement .pchl := by show 1 = (rowOf 0xE9).size; rfl
theorem jpe (w : Word) : Statement (.jpe w) := by show 3 = (rowOf 0xEA).size; rfl
theorem cpe (w : Word) : Statement (.cpe w) := by show 3 = (rowOf 0xEC).size; rfl
theorem rst5 : Statement .rst5 := by show 1 = (rowOf 0xEF).size; rfl
theorem rp : Statement .rp := by show 1 = (rowOf 0xF0).size; rfl
theorem jp (w : Word) : Statement (.jp w) := by show 3 = (rowOf 0xF2).size; rfl
theorem cp (w : Word) : Statement (.cp w) := by show 3 = (rowOf 0xF4).size; rfl
theorem rst6 : Statement .rst6 := by show 1 = (rowOf 0xF7).size; rfl
theorem rm : Statement .rm := by show 1 = (rowOf 0xF8).size; rfl
theorem jm (w : Word) : Statement (.jm w) := by show 3 = (rowOf 0xFA).size; rfl
theorem cm (w : Word) : Statement (.cm w) := by show 3 = (rowOf 0xFC).size; rfl
theorem rst7 : Statement .rst7 := by show 1 = (rowOf 0xFF).size; rfl
theorem nop : Statement .nop := by show 1 = (rowOf 0x00).size; rfl
theorem hlt : Statement .hlt := by show 1 = (rowOf 0x76).size; rfl
theorem popB : Statement .popB := by show 1 = (rowOf 0xC1).size; rfl
theorem pushB : Statement .pushB := by show 1 = (rowOf 0xC5).size; rfl
theorem popD : Statement .popD := by show 1 = (rowOf 0xD1).size; rfl
theorem outPort (v : Byte) : Statement (.outPort v) := by show 2 = (rowOf 0xD3).size; rfl
theorem pushD : Statement .pushD := by show 1 = (rowOf 0xD5).size; rfl
theorem inPort (v : Byte) : Statement (.inPort v) := by show 2 = (rowOf 0xDB).size; rfl
theorem popH : Statement .popH := by show 1 = (rowOf 0xE1).size; rfl
theorem xthl : Statement .xthl := by show 1 = (rowOf 0xE3).size; rfl
theorem pushH : Statement .pushH := by show 1 = (rowOf 0xE5).size; rfl
theorem popPSW : Statement .popPSW := by show 1 = (rowOf 0xF1).size; rfl
theorem di : Statement .di := by show 1 = (rowOf 0xF3).size; rfl
theorem pushPSW : Statement .pushPSW := by show 1 = (rowOf 0xF5).size; rfl
theorem sphl : Statement .sphl := by show 1 = (rowOf 0xF9).size; rfl
theorem ei : Statement .ei := by show 1 = (rowOf 0xFB).size; rfl
theorem undoc08 : Statement .undoc08 := by show 1 = (rowOf 0x08).size; rfl
theorem undoc10 : Statement .undoc10 := by show 1 = (rowOf 0x10).size; rfl
theorem undoc18 : Statement .undoc18 := by show 1 = (rowOf 0x18).size; rfl
theorem undoc20 : Statement .undoc20 := by show 1 = (rowOf 0x20).size; rfl
theorem undoc28 : Statement .undoc28 := by show 1 = (rowOf 0x28).size; rfl
theorem undoc30 : Statement .undoc30 := by show 1 = (rowOf 0x30).size; rfl
theorem undoc38 : Statement .undoc38 := by show 1 = (rowOf 0x38).size; rfl
theorem undocCB (w : Word) : Statement (.undocCB w) := by show 3 = (rowOf 0xCB).size; rfl
theorem undocD9 : Statement .undocD9 := by show 1 = (rowOf 0xD9).size; rfl
theorem undocDD (w : Word) : Statement (.undocDD w) := by show 3 = (rowOf 0xDD).size; rfl
theorem undocED (w : Word) : Statement (.undocED w) := by show 3 = (rowOf 0xED).size; rfl
theorem undocFD (w : Word) : Statement (.undocFD w) := by show 3 = (rowOf 0xFD).size; rfl
theorem lxiB (w : Word) : Statement (.lxiB w) := by show 3 = (rowOf 0x01).size; rfl
theorem staxB : Statement .staxB := by show 1 = (rowOf 0x02).size; rfl
theorem mviB (v : Byte) : Statement (.mviB v) := by show 2 = (rowOf 0x06).size; rfl
theorem ldaxB : Statement .ldaxB := by show 1 = (rowOf 0x0A).size; rfl
theorem mviC (v : Byte) : Statement (.mviC v) := by show 2 = (rowOf 0x0E).size; rfl
theorem lxiD (w : Word) : Statement (.lxiD w) := by show 3 = (rowOf 0x11).size; rfl
theorem staxD : Statement .staxD := by show 1 = (rowOf 0x12).size; rfl
theorem mviD (v : Byte) : Statement (.mviD v) := by show 2 = (rowOf 0x16).size; rfl
theorem ldaxD : Statement .ldaxD := by show 1 = (rowOf 0x1A).size; rfl
theorem mviE (v : Byte) : Statement (.mviE v) := by show 2 = (rowOf 0x1E).size; rfl
theorem lxiH (w : Word) : Statement (.lxiH w) := by show 3 = (rowOf 0x21).size; rfl
theorem shld (w : Word) : Statement (.shld w) := by show 3 = (rowOf 0x22).size; rfl
theorem mviH (v : Byte) : Statement (.mviH v) := by show 2 = (rowOf 0x26).size; rfl
theorem lhld (w : Word) : Statement (.lhld w) := by show 3 = (rowOf 0x2A).size; rfl
theorem mviL (v : Byte) : Statement (.mviL v) := by show 2 = (rowOf 0x2E).size; rfl
theorem lxiSP (w : Word) : Statement (.lxiSP w) := by show 3 = (rowOf 0x31).size; rfl
theorem sta (w : Word) : Statement (.sta w) := by show 3 = (rowOf 0x32).size; rfl
theorem mviM (v : Byte) : Statement (.mviM v) := by show 2 = (rowOf 0x36).size; rfl
theorem lda (w : Word) : Statement (.lda w) := by show 3 = (rowOf 0x3A).size; rfl
theorem mviA (v : Byte) : Statement (.mviA v) := by show 2 = (rowOf 0x3E).size; rfl
theorem movBB : Statement .movBB := by show 1 = (rowOf 0x40).size; rfl
theorem movBC : Statement .movBC := by show 1 = (rowOf 0x41).size; rfl
theorem movBD : Statement .movBD := by show 1 = (rowOf 0x42).size; rfl
theorem movBE : Statement .movBE := by show 1 = (rowOf 0x43).size; rfl
theorem movBH : Statement .movBH := by show 1 = (rowOf 0x44).size; rfl
theorem movBL : Statement .movBL := by show 1 = (rowOf 0x45).size; rfl
theorem movBM : Statement .movBM := by show 1 = (rowOf 0x46).size; rfl
theorem movBA : Statement .movBA := by show 1 = (rowOf 0x47).size; rfl
theorem movCB : Statement .movCB := by show 1 = (rowOf 0x48).size; rfl
theorem movCC : Statement .movCC := by show 1 = (rowOf 0x49).size; rfl
theorem movCD : Statement .movCD := by show 1 = (rowOf 0x4A).size; rfl
theorem movCE : Statement .movCE := by show 1 = (rowOf 0x4B).size; rfl
theorem movCH : Statement .movCH := by show 1 = (rowOf 0x4C).size; rfl
theorem movCL : Statement .movCL := by show 1 = (rowOf 0x4D).size; rfl
theorem movCM : Statement .movCM := by show 1 = (rowOf 0x4E).size; rfl
theorem movCA : Statement .movCA := by show 1 = (rowOf 0x4F).size; rfl
theorem movDB : Statement .movDB := by show 1 = (rowOf 0x50).size; rfl
theorem movDC : Statement .movDC := by show 1 = (rowOf 0x51).size; rfl
theorem movDD : Statement .movDD := by show 1 = (rowOf 0x52).size; rfl
theorem movDE : Statement .movDE := by show 1 = (rowOf 0x53).size; rfl
theorem movDH : Statement .movDH := by show 1 = (rowOf 0x54).size; rfl
theorem movDL : Statement .movDL := by show 1 = (rowOf 0x55).size; rfl
theorem movDM : Statement .movDM := by show 1 = (rowOf 0x56).size; rfl
theorem movDA : Statement .movDA := by show 1 = (rowOf 0x57).size; rfl
theorem movEB : Statement .movEB := by show 1 = (rowOf 0x58).size; rfl
theorem movEC : Statement .movEC := by show 1 = (rowOf 0x59).size; rfl
theorem movED : Statement .movED := by show 1 = (rowOf 0x5A).size; rfl
theorem movEE : Statement .movEE := by show 1 = (rowOf 0x5B).size; rfl
theorem movEH : Statement .movEH := by show 1 = (rowOf 0x5C).size; rfl
theorem movEL : Statement .movEL := by show 1 = (rowOf 0x5D).size; rfl
theorem movEM : Statement .movEM := by show 1 = (rowOf 0x5E).size; rfl
theorem movEA : Statement .movEA := by show 1 = (rowOf 0x5F).size; rfl
theorem movHB : Statement .movHB := by show 1 = (rowOf 0x60).size; rfl
theorem movHC : Statement .movHC := by show 1 = (rowOf 0x61).size; rfl
theorem movHD : Statement .movHD := by show 1 = (rowOf 0x62).size; rfl
theorem movHE : Statement .movHE := by show 1 = (rowOf 0x63).size; rfl
theorem movHH : Statement .movHH := by show 1 = (rowOf 0x64).size; rfl
theorem movHL : Statement .movHL := by show 1 = (rowOf 0x65).size; rfl
theorem movHM : Statement .movHM := by show 1 = (rowOf 0x66).size; rfl
theorem movHA : Statement .movHA := by show 1 = (rowOf 0x67).size; rfl
theorem movLB : Statement .movLB := by show 1 = (rowOf 0x68).size; rfl
theorem movLC : Statement .movLC := by show 1 = (rowOf 0x69).size; rfl
theorem movLD : Statement .movLD := by show 1 = (rowOf 0x6A).size; rfl
theorem movLE : Statement .movLE := by show 1 = (rowOf 0x6B).size; rfl
theorem movLH : Statement .movLH := by show 1 = (rowOf 0x6C).size; rfl
theorem movLL : Statement .movLL := by show 1 = (rowOf 0x6D).size; rfl
theorem movLM : Statement .movLM := by show 1 = (rowOf 0x6E).size; rfl
theorem movLA : Statement .movLA := by show 1 = (rowOf 0x6F).size; rfl
theorem movMB : Statement .movMB := by show 1 = (rowOf 0x70).size; rfl
theorem movMC : Statement .movMC := by show 1 = (rowOf 0x71).size; rfl
theorem movMD : Statement .movMD := by show 1 = (rowOf 0x72).size; rfl
theorem movME : Statement .movME := by show 1 = (rowOf 0x73).size; rfl
theorem movMH : Statement .movMH := by show 1 = (rowOf 0x74).size; rfl
theorem movML : Statement .movML := by show 1 = (rowOf 0x75).size; rfl
theorem movMA : Statement .movMA := by show 1 = (rowOf 0x77).size; rfl
theorem movAB : Statement .movAB := by show 1 = (rowOf 0x78).size; rfl
theorem movAC : Statement .movAC := by show 1 = (rowOf 0x79).size; rfl
theorem movAD : Statement .movAD := by show 1 = (rowOf 0x7A).size; rfl
theorem movAE : Statement .movAE := by show 1 = (rowOf 0x7B).size; rfl
theorem movAH : Statement .movAH := by show 1 = (rowOf 0x7C).size; rfl
theorem movAL : Statement .movAL := by show 1 = (rowOf 0x7D).size; rfl
theorem movAM : Statement .movAM := by show 1 = (rowOf 0x7E).size; rfl
theorem movAA : Statement .movAA := by show 1 = (rowOf 0x7F).size; rfl
theorem xchg : Statement .xchg := by show 1 = (rowOf 0xEB).size; rfl

end Sys2Proof.Laws.Size
end

