-- ==== Sys2Proof/Laws/Updates.lean ====
section
/-! SUPPORT. Every operation, and every step, is a chain of elementary updates: what one can do at all,
said once. A claim that each update keeps, every instruction and every step keeps, in its next state and in
the state its fault leaves. -/

namespace Sys2Proof.Machine

/-- One elementary update an instruction's operation makes. -/
inductive OpUpdate : State → State → Prop where
  | reg (s : State) (r : Reg8) (v : Byte) : OpUpdate s (s.setReg r v)
  | sp (s : State) (v : Word) : OpUpdate s (s.setSp v)
  | pc (s : State) (v : Word) : OpUpdate s (s.setPc v)
  | flags (s : State) (f : Flags) : OpUpdate s (s.setFlags f)
  | inte (s : State) (v : Bool) : OpUpdate s (s.setInte v)
  | halt (s : State) (v : Bool) : OpUpdate s (s.setHalt v)
  | eiShadow (s : State) (h : s.cfg.eiDelay = true) : OpUpdate s (s.setEiShadow true)
  | shift (s : State) (v : Word) : OpUpdate s (s.setShift v)
  | shiftOff (s : State) (v : BitVec 3) : OpUpdate s (s.setShiftOff v)
  | outputs (s : State) (es : List OutputEvent) : OpUpdate s (s.setOutputs es)
  | inputDraws (s : State) (n : Nat) : OpUpdate s (s.setInputDraws n)
  | store (s : State) (addr : Word) (off : Nat) (v : Byte)
      (h : resolveWrite s.cfg addr = .found off) (hlt : off < s.cfg.storeSize) :
      OpUpdate s (s.setStore (Memory.write s.store off v))

/-- One elementary update of a step: an operation's, or the bookkeeping of the engine and of the
scheduler. -/
inductive StepUpdate : State → State → Prop where
  | op {s s' : State} : OpUpdate s s' → StepUpdate s s'
  | eiShadow (s : State) (v : Bool) : StepUpdate s (s.setEiShadow v)
  | pending (s : State) (v : Option (BitVec 3)) : StepUpdate s (s.setPending v)
  | cyc (s : State) (n : Nat) : StepUpdate s (s.setCyc n)
  | midFired (s : State) (v : Bool) : StepUpdate s (s.setMidFired v)
  | frame (s : State) (n : Nat) : StepUpdate s (s.setFrame n)

/-- A chain of updates. -/
inductive Chain (U : State → State → Prop) (s : State) : State → Prop where
  | refl : Chain U s s
  | step {s1 s2 : State} : Chain U s s1 → U s1 s2 → Chain U s s2

theorem Chain.trans {U : State → State → Prop} {s s1 s2 : State} (h : Chain U s s1)
    (h' : Chain U s1 s2) : Chain U s s2 := by
  induction h' with
  | refl => exact h
  | step _ hu ih => exact ih.step hu

/-- What every update keeps holds along a chain. -/
theorem Chain.keeps {U : State → State → Prop} {P : State → Prop} {s s' : State}
    (h : ∀ s1 s2, U s1 s2 → P s1 → P s2) (hc : Chain U s s') (hs : P s) : P s' := by
  induction hc with
  | refl => exact hs
  | step _ hu ih => exact h _ _ hu ih

/-- An answer reached from `s` by updates alone: the next state, or the state a fault was raised in. -/
def Reached {α : Type} (U : State → State → Prop) (s : State) (get : α → State) :
    Host.Outcome α Fault Refusal → Prop
  | .next x => Chain U s (get x)
  | .fault f => ∃ (s1 : State) (r : FaultRecord), Chain U s s1 ∧ f = r.toFault (s1.setFault (some r))
  | .refused _ => False

/-- Reached by the elementary updates of an operation. -/
abbrev Via {α : Type} (s : State) (get : α → State) (o : Host.Outcome α Fault Refusal) : Prop :=
  Reached OpUpdate s get o

/-- Reached by the updates of a step. -/
abbrev StepVia {α : Type} (s : State) (get : α → State) (o : Host.Outcome α Fault Refusal) : Prop :=
  Reached StepUpdate s get o

variable {α : Type} {get : α → State} {s0 s : State}

theorem via_next {x : α} (h : Chain OpUpdate s0 (get x)) : Via s0 get (.next x) := h

theorem via_raise (h : Chain OpUpdate s0 s) (r : FaultRecord) : Via s0 get (raise s r) :=
  ⟨s, r, h, rfl⟩

theorem via_readThen {addr : Word} {k : Byte → Host.Outcome α Fault Refusal} (h : Chain OpUpdate s0 s)
    (hk : ∀ v, Via s0 get (k v)) : Via s0 get (readThen s addr k) := by
  unfold readThen
  split
  · exact hk _
  · exact via_raise h _

theorem via_writeThen {addr : Word} {v : Byte} {k : State → Host.Outcome α Fault Refusal}
    (h : Chain OpUpdate s0 s) (hk : ∀ s1, Chain OpUpdate s0 s1 → Via s0 get (k s1)) :
    Via s0 get (writeThen s addr v k) := by
  unfold writeThen
  split
  · next s1 hs =>
    rcases memWrite_ok hs with ⟨_, _, rfl⟩ | ⟨off, hf, hlt, rfl⟩
    · exact hk _ h
    · exact hk _ (h.step (.store _ addr off v hf hlt))
  · exact via_raise h _

theorem via_push16 {w : Word} {k : State → Host.Outcome α Fault Refusal} (h : Chain OpUpdate s0 s)
    (hk : ∀ s1, Chain OpUpdate s0 s1 → Via s0 get (k s1)) : Via s0 get (push16 s w k) :=
  via_writeThen h fun _ h1 => via_writeThen h1 fun _ h2 => hk _ (h2.step (.sp _ _))

theorem via_pop16 {k : Word → State → Host.Outcome α Fault Refusal} (h : Chain OpUpdate s0 s)
    (hk : ∀ v s1, Chain OpUpdate s0 s1 → Via s0 get (k v s1)) : Via s0 get (pop16 s k) :=
  via_readThen h fun _ => via_readThen h fun _ => hk _ _ (h.step (.sp _ _))

theorem via_readOperand {o : Operand8} {k : Byte → Out} (h : Chain OpUpdate s0 s)
    (hk : ∀ v, Via s0 id (k v)) : Via s0 id (readOperand s o k) := by
  cases o with
  | reg r => exact hk _
  | m => exact via_readThen h hk

theorem via_writeOperand {o : Operand8} {v : Byte} {k : State → Out} (h : Chain OpUpdate s0 s)
    (hk : ∀ s1, Chain OpUpdate s0 s1 → Via s0 id (k s1)) : Via s0 id (writeOperand s o v k) := by
  cases o with
  | reg r => exact hk _ (h.step (.reg _ _ _))
  | m => exact via_writeThen h hk

theorem Chain.pair (h : Chain OpUpdate s0 s) (rp : RegPair) (w : Word) : Chain OpUpdate s0 (s.setPair rp w) := by
  cases rp with
  | bc => exact (h.step (.reg s .b (highByte w))).step (.reg _ .c (lowByte w))
  | de => exact (h.step (.reg s .d (highByte w))).step (.reg _ .e (lowByte w))
  | hl => exact (h.step (.reg s .h (highByte w))).step (.reg _ .l (lowByte w))
  | sp => exact h.step (.sp s w)

theorem chain_aluStep (op : AluOp) (v : Byte) (s : State) : Chain OpUpdate s (aluStep op v s) := by
  unfold aluStep
  split
  · exact Chain.refl.step (.flags _ _)
  · exact (Chain.refl.step (.reg _ _ _)).step (.flags _ _)

theorem via_aluOperandOp (op : AluOp) (o : Operand8) (s : State) :
    Via s id (aluOperandOp op o s) :=
  via_readOperand .refl fun v => via_next (chain_aluStep op v s)

theorem via_accStep (f : Flags → Byte → AluResult) (s : State) : Via s id (accStep f s) :=
  via_next ((Chain.refl.step (.reg _ _ _)).step (.flags _ _))

theorem via_callOp (w : Word) (s : State) : Via s id (callOp w s) :=
  via_push16 .refl fun _ h => via_next (h.step (.pc _ _))

theorem via_retOp (s : State) : Via s id (retOp s) :=
  via_pop16 .refl fun _ _ h => via_next (h.step (.pc _ _))

theorem via_jmpOp (w : Word) (s : State) : Via s id (jmpOp w s) :=
  via_next (Chain.refl.step (.pc _ _))

theorem via_incrementOp (o : Operand8) (s : State) : Via s id (incrementOp o s) :=
  via_readOperand .refl fun _ => via_writeOperand (Chain.refl.step (.flags _ _)) fun _ h => via_next h

theorem via_decrementOp (o : Operand8) (s : State) : Via s id (decrementOp o s) :=
  via_readOperand .refl fun _ => via_writeOperand (Chain.refl.step (.flags _ _)) fun _ h => via_next h

theorem via_undocumented (op : Byte) (size : Word) (o : Out) (s : State) (h : Via s id o) :
    Via s id (undocumented op size o s) := by
  unfold undocumented
  split
  · exact via_raise .refl _
  · exact h

theorem chain_portIn (s : State) (p : Byte) : Chain OpUpdate s (portIn s p).2 := by
  unfold portIn
  split
  · exact .refl
  · split
    · exact .refl
    · exact Chain.refl.step (.inputDraws _ _)

theorem chain_portOut (s : State) (p v : Byte) : Chain OpUpdate s (portOut s p v) := by
  unfold portOut
  split
  · exact Chain.refl.step (.shift _ _)
  · split
    · exact Chain.refl.step (.shiftOff _ _)
    · exact Chain.refl.step (.outputs _ _)

theorem via_eiOp (s : State) : Via s id (eiOp s) := by
  apply via_next
  show Chain OpUpdate s (if s.cfg.eiDelay then (s.setInte true).setEiShadow true else s.setInte true)
  split
  · next h => exact (Chain.refl.step (.inte _ _)).step (.eiShadow _ h)
  · exact Chain.refl.step (.inte _ _)

theorem via_if {c : Prop} [Decidable c] {o o' : Out} (h : Via s0 id o) (h' : Via s0 id o') :
    Via s0 id (if c then o else o') := by
  split
  · exact h
  · exact h'

/-- Every instruction answers through elementary updates alone, and none is refused. -/
theorem exec_via (i : Instr) (s : State) : Via s id (exec i s) := by
  have stay : Via s id (Host.Outcome.next s : Out) := via_next .refl
  have load (addr : Word) : Via s id (loadAccOp addr s) :=
    via_readThen .refl fun _ => via_next (Chain.refl.step (.reg _ _ _))
  have save (addr : Word) : Via s id (storeAccOp addr s) := via_writeThen .refl fun _ h => via_next h
  have store (v : Byte) : Via s id (storeOp .m v s) := via_writeOperand .refl fun _ h => via_next h
  have push (w : Word) : Via s id (push16 s w .next : Out) := via_push16 .refl fun _ h => via_next h
  have pop (rp : RegPair) : Via s id (popOp rp s) :=
    via_pop16 .refl fun _ _ h => via_next (h.pair rp _)
  refine instr_forms (P := fun i => Via s id (exec i s)) ?_ ?_ ?_ ?_ ?_ ?_ ?_ ?_ ?_ ?_ ?_ ?_ ?_ ?_
    ?_ ?_ ?_ stay (save _) (via_accStep _ s) (via_undocumented _ _ _ s stay) (load _) (via_accStep _ s)
    (via_undocumented _ _ _ s stay) (save _) (via_accStep _ s) (via_undocumented _ _ _ s stay)
    (load _) (via_accStep _ s) (via_undocumented _ _ _ s stay) ?_ (via_accStep _ s)
    (via_undocumented _ _ _ s stay) ?_ (via_next (Chain.refl.step (.reg _ _ _)))
    (via_undocumented _ _ _ s stay) (fun w => save w) (via_incrementOp .m s) (via_decrementOp .m s)
    (fun v => store v)
    (via_next (Chain.refl.step (.flags _ _))) (via_undocumented _ _ _ s stay) (fun w => load w)
    (via_next (Chain.refl.step (.flags _ _))) (via_next (Chain.refl.step (.halt _ _))) (pop .bc)
    (fun w => via_jmpOp w s) (push _) (via_retOp s)
    (fun w => via_undocumented _ _ _ s (via_jmpOp w s)) (fun w => via_callOp w s) (pop .de)
    (fun _ => via_next (chain_portOut s _ _)) (push _) (via_undocumented _ _ _ s (via_retOp s))
    (fun _ => via_next ((chain_portIn s _).step (.reg _ _ _)))
    (fun w => via_undocumented _ _ _ s (via_callOp w s)) (pop .hl) ?_ (push _)
    (via_next (Chain.refl.step (.pc _ _))) (via_next ((Chain.refl.pair _ _).pair _ _))
    (fun w => via_undocumented _ _ _ s (via_callOp w s)) ?_ (via_next (Chain.refl.step (.inte _ _)))
    (push _) (via_next (Chain.refl.step (.sp _ _))) (via_eiOp s)
    (fun w => via_undocumented _ _ _ s (via_callOp w s)) i
  · intro rd rs; rw [exec_movReg]
    exact via_readOperand .refl fun _ => via_writeOperand .refl fun _ h => via_next h
  · intro rd; rw [exec_movFromM]
    exact via_readOperand .refl fun _ => via_writeOperand .refl fun _ h => via_next h
  · intro rs; rw [exec_movToM]
    exact via_readOperand .refl fun _ => via_writeOperand .refl fun _ h => via_next h
  · intro rd v; rw [exec_mviReg]
    exact via_writeOperand .refl fun _ h => via_next h
  · intro rp w; rw [exec_lxi]; exact via_next (Chain.refl.pair rp w)
  · intro op rs; rw [exec_aluReg]; exact via_aluOperandOp op _ s
  · intro op; rw [exec_aluM]; exact via_aluOperandOp op _ s
  · intro op v; rw [exec_aluImm]; exact via_next (chain_aluStep op v s)
  · intro rd; rw [exec_inr]; exact via_incrementOp _ s
  · intro rd; rw [exec_dcr]; exact via_decrementOp _ s
  · intro rp; rw [exec_inx]; exact via_next (Chain.refl.pair rp _)
  · intro rp; rw [exec_dcx]; exact via_next (Chain.refl.pair rp _)
  · intro rp; rw [exec_dad]; exact via_next ((Chain.refl.step (.flags _ _)).pair _ _)
  · intro cc w; rw [exec_jumpIf]; exact via_if (via_jmpOp w s) stay
  · intro cc w; rw [exec_callIf]; exact via_if (via_callOp w s) stay
  · intro cc; rw [exec_returnIf]; exact via_if (via_retOp s) stay
  · intro n; rw [exec_rst]; exact via_callOp _ s
  · intro w
    exact via_writeThen .refl fun _ h1 => via_writeThen h1 fun _ h2 => via_next h2
  · intro w
    exact via_readThen .refl fun _ => via_readThen .refl fun _ => via_next (Chain.refl.pair _ _)
  · exact via_readThen .refl fun _ => via_readThen .refl fun _ => via_writeThen .refl fun _ h1 =>
      via_writeThen h1 fun _ h2 => via_next ((h2.step (.reg _ _ _)).step (.reg _ _ _))
  · show Via s id (popPswOp s)
    refine via_pop16 .refl fun w s1 h => ?_
    apply via_next
    exact (h.step (.flags s1 (unpackFlags (lowByte w)))).step (.reg _ .a (highByte w))

/-- An acceptance, too, is elementary updates. -/
theorem accept_via (n : BitVec 3) (s : State) : Via s Prod.fst (accept n s) :=
  via_push16 ((Chain.refl.step (.halt _ _)).step (.inte _ _)) fun _ h => via_next (h.step (.pc _ _))

/-! ## The step -/

theorem Chain.ops (h : Chain OpUpdate s0 s) : Chain StepUpdate s0 s := by
  induction h with
  | refl => exact .refl
  | step _ hu ih => exact ih.step (.op hu)

/-- What an operation answers from a state of a chain, the chain's start answers too. -/
theorem Reached.after {o : Host.Outcome α Fault Refusal} (hc : Chain StepUpdate s0 s)
    (h : Via s get o) : StepVia s0 get o := by
  cases o with
  | next x => exact hc.trans (Chain.ops h)
  | fault f =>
    obtain ⟨s1, r, h1, h2⟩ := h
    exact ⟨s1, r, hc.trans h1.ops, h2⟩
  | refused => exact h

theorem stepVia_raise (h : Chain StepUpdate s0 s) (r : FaultRecord) : StepVia s0 get (raise s r) :=
  ⟨s, r, h, rfl⟩

theorem stepVia_interrupt (n : Nat) (h : Chain StepUpdate s0 s) :
    StepVia s0 Prod.fst (interrupt n s) := by
  unfold interrupt
  split
  · exact stepVia_raise h _
  · split
    · exact h
    · split
      · exact h
      · split
        · show Chain StepUpdate s0 (if s.pending = none then _ else s)
          split
          · exact h.step (.pending _ _)
          · exact h
        · exact Reached.after h (accept_via _ s)

theorem chain_beginOperation (i : Instr) (s : State) : Chain StepUpdate s (beginOperation i s) :=
  ((Chain.refl.step (.op (.pc s _))).step (.eiShadow _ false)).step (.pending _ _)

theorem stepVia_endOperation (held : Option (BitVec 3)) (n : Nat) (h : Chain StepUpdate s0 s) :
    StepVia s0 Prod.fst (endOperation held n s) := by
  unfold endOperation
  split
  · exact h
  · next k =>
    split
    · have ha : StepVia s0 Prod.fst (accept k s) := Reached.after h (accept_via k s)
      split
      · next he => rw [he] at ha; exact ha
      · next he => rw [he] at ha; exact ha
      · next he => rw [he] at ha; exact ha
    · exact h

theorem stepVia_runInstr (i : Instr) (s : State) : StepVia s Prod.fst (runInstr i s) := by
  have ha : StepVia s id (exec i (beginOperation i s)) :=
    Reached.after (chain_beginOperation i s) (exec_via i _)
  simp only [runInstr]
  split
  · next he => rw [he] at ha; exact stepVia_endOperation _ _ ha
  · next he => rw [he] at ha; exact ha
  · next he => rw [he] at ha; exact ha

theorem stepVia_engineStep (s : State) : StepVia s Prod.fst (engineStep s) := by
  unfold engineStep
  split
  · exact stepVia_raise .refl _
  · split
    · exact .refl
    · split
      · exact stepVia_raise .refl _
      · exact stepVia_runInstr _ s

theorem stepVia_charge {o : StepOut} {k : State → Out} (h : StepVia s0 Prod.fst o)
    (hk : ∀ s1, Chain StepUpdate s0 s1 → StepVia s0 id (k s1)) : StepVia s0 id (charge o k) := by
  unfold charge
  split
  · exact hk _ (Chain.step h (.cyc _ _))
  · exact h
  · exact h

theorem stepVia_midFrameOffer {k : State → Out} (h : Chain StepUpdate s0 s)
    (hk : ∀ s1, Chain StepUpdate s0 s1 → StepVia s0 id (k s1)) :
    StepVia s0 id (midFrameOffer s k) := by
  unfold midFrameOffer
  split
  · exact stepVia_charge (stepVia_interrupt 1 (h.step (.midFired _ _))) hk
  · exact hk _ h

theorem stepVia_endOfFrame (h : Chain StepUpdate s0 s) : StepVia s0 id (endOfFrame s) := by
  unfold endOfFrame
  split
  · exact stepVia_charge (stepVia_interrupt 2 h) fun s1 h1 =>
      ((h1.step (.cyc _ _)).step (.midFired _ _)).step (.frame _ _)
  · exact h

/-- Everything a step does is updates, and no step is refused. -/
theorem step_via (s : State) : StepVia s id (step s) := by
  unfold step frameStep
  split
  · exact stepVia_raise .refl _
  · split
    · exact stepVia_charge (stepVia_engineStep s) fun s1 h1 =>
        stepVia_midFrameOffer h1 fun s2 h2 => stepVia_endOfFrame h2
    · exact stepVia_endOfFrame .refl

end Sys2Proof.Machine
end

