-- ==== Sys2Proof/Tests/Slice0.lean ====
section
/-! SUPPORT. The model's own tests. Expected results come from the spec: encodings from the opcode table's
field patterns (30_encoding.md R112, R118 to R121), instruction results from the vectors of
95_test_vectors.md. After them, for every statement with hypotheses, a state and operands that meet
them. -/

namespace Sys2Proof.Tests

open Sys2Proof Sys2Proof.Machine Sys2Proof.Claims

/-! ## The test bench -/

/-- The answer is a next state of which `p` holds. -/
def after (o : Out) (p : State → Bool) : Bool :=
  match o with
  | .next s => p s
  | .fault _ => false
  | .refused _ => false

/-- The answer is a fault with this record, and `p` holds of the final state. -/
def stops (o : Out) (r : FaultRecord) (p : State → Bool) : Bool :=
  match o with
  | .next _ => false
  | .fault f => decide (f.final.fault = some r) && decide (f = r.toFault f.final) && p f.final
  | .refused _ => false

/-- The answer of an offer or of a step of the engine is a next state and a cost of which `p` holds. -/
def reports (o : StepOut) (p : State → Nat → Bool) : Bool :=
  match o with
  | .next (s, n) => p s n
  | .fault _ => false
  | .refused _ => false

/-- Bytes from an address on, placed as the loader places them. -/
def put (addr : Word) : List Byte → State → State
  | [], s => s
  | v :: rest, s => put (addr + 1) rest (loadByte s addr v)

/-- A machine with PC at 0x2000 and these bytes there, as every vector of 95_test_vectors.md has them. -/
def code (bytes : List Byte) (s : State) : State := put 0x2000 bytes { s with pc := 0x2000 }

/-- One step of the bytes at 0x2000. -/
def runs (bytes : List Byte) (s : State) (p : State → Bool) : Bool := after (step (code bytes s)) p

/-- The same, ending in a fault. -/
def faults (bytes : List Byte) (s : State) (r : FaultRecord) (p : State → Bool) : Bool :=
  stops (step (code bytes s)) r p

/-- The byte a read of an address gives. -/
def byteAt (s : State) (addr : Word) : Option Byte := probeRead s addr

/-- PC and the cycles charged. -/
def moved (s : State) (pc : Word) (cyc : Nat) : Bool := decide (s.pc = pc) && decide (s.cyc = cyc)

/-- A, the flags (S Z AC P CY), PC past an instruction of `size` bytes, and its cycles. -/
def gives (v : Byte) (f : Flags) (size : Nat) (cyc : Nat) (s : State) : Bool :=
  decide (s.a = v) && decide (s.flags = f) && moved s (BitVec.ofNat 16 (0x2000 + size)) cyc

/-- The flags in the order of 95_test_vectors.md: S Z AC P CY. -/
def fl (s z ac p cy : Nat) : Flags :=
  { s := decide (s = 1), z := decide (z = 1), ac := decide (ac = 1), p := decide (p = 1),
    cy := decide (cy = 1) }

/-- The reset state. -/
abbrev zero : State := State.reset

/-! ## What is checked of the parameters (R75, R9, R341, R382) -/

theorem test_default_parameters_are_well_formed : defaultConfig.wellFormed = true := by decide

/-- R75 a. -/
theorem test_refuses_overlapping_chunks :
    Config.mapWellFormed
      { defaultConfig with chunkMap := { start := 0x1FFF, phys := 0, len := 2, kind := .ram } :: defaultChunkMap } = false := by
  decide

/-- R75 b. -/
theorem test_refuses_chunk_past_the_store :
    Config.mapWellFormed
      { defaultConfig with storeSize := 0x3FFF } = false := by
  decide

/-- R75 c. -/
theorem test_refuses_chunk_past_the_address_space :
    Config.mapWellFormed
      { defaultConfig with chunkMap := [{ start := 0xFFFF, phys := 0, len := 2, kind := .rom }] } = false := by
  decide

/-- R9. -/
theorem test_refuses_zero_clock :
    Config.schedulerWellFormed
      { defaultConfig with clockHz := 0 } = false := by
  decide

/-- R9. -/
theorem test_refuses_zero_refresh :
    Config.schedulerWellFormed
      { defaultConfig with refreshHz := 0 } = false := by
  decide

/-- R9. -/
theorem test_refuses_zero_idle_cost :
    Config.schedulerWellFormed
      { defaultConfig with haltIdleCycles := 0 } = false := by
  decide

/-- R9. -/
theorem test_refuses_mid_scanline_zero :
    Config.schedulerWellFormed
      { defaultConfig with midScanline := 0 } = false := by
  decide

/-- R9. -/
theorem test_refuses_mid_scanline_at_height :
    Config.schedulerWellFormed
      { defaultConfig with midScanline := 224 } = false := by
  decide

/-- R341. -/
theorem test_refuses_scanline_of_no_cycles :
    Config.schedulerWellFormed
      { defaultConfig with displayHeight := 33334 } = false := by
  decide

/-- R382. -/
theorem test_refuses_flat_cost_zero :
    Config.wellFormed
      { defaultConfig with cycleTable := .flat 0 } = false := by
  decide

/-- R382. -/
theorem test_refuses_table_of_255_rows :
    Config.wellFormed
      { defaultConfig with cycleTable := .table (List.replicate 255 (4, 4)) } = false := by
  decide +kernel

/-- R382. -/
theorem test_refuses_table_with_a_zero :
    Config.wellFormed
      { defaultConfig with cycleTable := .table ((0, 4) :: List.replicate 255 (4, 4)) } = false := by
  decide +kernel

/-- R382. -/
theorem test_refuses_table_with_a_zero_not_taken :
    Config.wellFormed
      { defaultConfig with cycleTable := .table ((4, 0) :: List.replicate 255 (4, 4)) } = false := by
  decide +kernel

/-- An empty list of bytes and a missing operand byte are no instruction, each under its own name. -/
theorem test_decode_refuses_missing_bytes :
    decode [] = .error .noOpcode ∧ decode [0x06] = .error (.operandMissing 0x06) ∧
      decode [0x01, 0x34] = .error (.operandMissing 0x01) := by
  decide

/-- Every list of bytes decodes to the instruction beside it, with nothing left over. -/
def allRead (rows : List (List Byte × Instr)) : Bool :=
  rows.all fun x =>
    match decode x.1 with
    | .ok (i, rest) => decide (i = x.2) && rest.isEmpty
    | .error _ => false

/-! ## Decoding: every opcode, its byte assembled from the pattern of the opcode table and the field
codes; operand bytes 0x34, and 0x34 0x12 for a word (low byte first) -/

theorem test_decode_0x : allRead [
    ([0b00000000], .nop),
    ([0b00000001, 0x34, 0x12], .lxiB 0x1234),
    ([0b00000010], .staxB),
    ([0b00000011], .inxB),
    ([0b00000100], .inrB),
    ([0b00000101], .dcrB),
    ([0b00000110, 0x34], .mviB 0x34),
    ([0b00000111], .rlc),
    ([0b00001000], .undoc08),
    ([0b00001001], .dadB),
    ([0b00001010], .ldaxB),
    ([0b00001011], .dcxB),
    ([0b00001100], .inrC),
    ([0b00001101], .dcrC),
    ([0b00001110, 0x34], .mviC 0x34),
    ([0b00001111], .rrc)] = true := by
  decide

theorem test_decode_1x : allRead [
    ([0b00010000], .undoc10),
    ([0b00010001, 0x34, 0x12], .lxiD 0x1234),
    ([0b00010010], .staxD),
    ([0b00010011], .inxD),
    ([0b00010100], .inrD),
    ([0b00010101], .dcrD),
    ([0b00010110, 0x34], .mviD 0x34),
    ([0b00010111], .ral),
    ([0b00011000], .undoc18),
    ([0b00011001], .dadD),
    ([0b00011010], .ldaxD),
    ([0b00011011], .dcxD),
    ([0b00011100], .inrE),
    ([0b00011101], .dcrE),
    ([0b00011110, 0x34], .mviE 0x34),
    ([0b00011111], .rar)] = true := by
  decide

theorem test_decode_2x : allRead [
    ([0b00100000], .undoc20),
    ([0b00100001, 0x34, 0x12], .lxiH 0x1234),
    ([0b00100010, 0x34, 0x12], .shld 0x1234),
    ([0b00100011], .inxH),
    ([0b00100100], .inrH),
    ([0b00100101], .dcrH),
    ([0b00100110, 0x34], .mviH 0x34),
    ([0b00100111], .daa),
    ([0b00101000], .undoc28),
    ([0b00101001], .dadH),
    ([0b00101010, 0x34, 0x12], .lhld 0x1234),
    ([0b00101011], .dcxH),
    ([0b00101100], .inrL),
    ([0b00101101], .dcrL),
    ([0b00101110, 0x34], .mviL 0x34),
    ([0b00101111], .cma)] = true := by
  decide

theorem test_decode_3x : allRead [
    ([0b00110000], .undoc30),
    ([0b00110001, 0x34, 0x12], .lxiSP 0x1234),
    ([0b00110010, 0x34, 0x12], .sta 0x1234),
    ([0b00110011], .inxSP),
    ([0b00110100], .inrM),
    ([0b00110101], .dcrM),
    ([0b00110110, 0x34], .mviM 0x34),
    ([0b00110111], .stc),
    ([0b00111000], .undoc38),
    ([0b00111001], .dadSP),
    ([0b00111010, 0x34, 0x12], .lda 0x1234),
    ([0b00111011], .dcxSP),
    ([0b00111100], .inrA),
    ([0b00111101], .dcrA),
    ([0b00111110, 0x34], .mviA 0x34),
    ([0b00111111], .cmc)] = true := by
  decide

theorem test_decode_4x : allRead [
    ([0b01000000], .movBB),
    ([0b01000001], .movBC),
    ([0b01000010], .movBD),
    ([0b01000011], .movBE),
    ([0b01000100], .movBH),
    ([0b01000101], .movBL),
    ([0b01000110], .movBM),
    ([0b01000111], .movBA),
    ([0b01001000], .movCB),
    ([0b01001001], .movCC),
    ([0b01001010], .movCD),
    ([0b01001011], .movCE),
    ([0b01001100], .movCH),
    ([0b01001101], .movCL),
    ([0b01001110], .movCM),
    ([0b01001111], .movCA)] = true := by
  decide

theorem test_decode_5x : allRead [
    ([0b01010000], .movDB),
    ([0b01010001], .movDC),
    ([0b01010010], .movDD),
    ([0b01010011], .movDE),
    ([0b01010100], .movDH),
    ([0b01010101], .movDL),
    ([0b01010110], .movDM),
    ([0b01010111], .movDA),
    ([0b01011000], .movEB),
    ([0b01011001], .movEC),
    ([0b01011010], .movED),
    ([0b01011011], .movEE),
    ([0b01011100], .movEH),
    ([0b01011101], .movEL),
    ([0b01011110], .movEM),
    ([0b01011111], .movEA)] = true := by
  decide

theorem test_decode_6x : allRead [
    ([0b01100000], .movHB),
    ([0b01100001], .movHC),
    ([0b01100010], .movHD),
    ([0b01100011], .movHE),
    ([0b01100100], .movHH),
    ([0b01100101], .movHL),
    ([0b01100110], .movHM),
    ([0b01100111], .movHA),
    ([0b01101000], .movLB),
    ([0b01101001], .movLC),
    ([0b01101010], .movLD),
    ([0b01101011], .movLE),
    ([0b01101100], .movLH),
    ([0b01101101], .movLL),
    ([0b01101110], .movLM),
    ([0b01101111], .movLA)] = true := by
  decide

theorem test_decode_7x : allRead [
    ([0b01110000], .movMB),
    ([0b01110001], .movMC),
    ([0b01110010], .movMD),
    ([0b01110011], .movME),
    ([0b01110100], .movMH),
    ([0b01110101], .movML),
    ([0b01110110], .hlt),
    ([0b01110111], .movMA),
    ([0b01111000], .movAB),
    ([0b01111001], .movAC),
    ([0b01111010], .movAD),
    ([0b01111011], .movAE),
    ([0b01111100], .movAH),
    ([0b01111101], .movAL),
    ([0b01111110], .movAM),
    ([0b01111111], .movAA)] = true := by
  decide

theorem test_decode_8x : allRead [
    ([0b10000000], .addB),
    ([0b10000001], .addC),
    ([0b10000010], .addD),
    ([0b10000011], .addE),
    ([0b10000100], .addH),
    ([0b10000101], .addL),
    ([0b10000110], .addM),
    ([0b10000111], .addA),
    ([0b10001000], .adcB),
    ([0b10001001], .adcC),
    ([0b10001010], .adcD),
    ([0b10001011], .adcE),
    ([0b10001100], .adcH),
    ([0b10001101], .adcL),
    ([0b10001110], .adcM),
    ([0b10001111], .adcA)] = true := by
  decide

theorem test_decode_9x : allRead [
    ([0b10010000], .subB),
    ([0b10010001], .subC),
    ([0b10010010], .subD),
    ([0b10010011], .subE),
    ([0b10010100], .subH),
    ([0b10010101], .subL),
    ([0b10010110], .subM),
    ([0b10010111], .subA),
    ([0b10011000], .sbbB),
    ([0b10011001], .sbbC),
    ([0b10011010], .sbbD),
    ([0b10011011], .sbbE),
    ([0b10011100], .sbbH),
    ([0b10011101], .sbbL),
    ([0b10011110], .sbbM),
    ([0b10011111], .sbbA)] = true := by
  decide

theorem test_decode_Ax : allRead [
    ([0b10100000], .anaB),
    ([0b10100001], .anaC),
    ([0b10100010], .anaD),
    ([0b10100011], .anaE),
    ([0b10100100], .anaH),
    ([0b10100101], .anaL),
    ([0b10100110], .anaM),
    ([0b10100111], .anaA),
    ([0b10101000], .xraB),
    ([0b10101001], .xraC),
    ([0b10101010], .xraD),
    ([0b10101011], .xraE),
    ([0b10101100], .xraH),
    ([0b10101101], .xraL),
    ([0b10101110], .xraM),
    ([0b10101111], .xraA)] = true := by
  decide

theorem test_decode_Bx : allRead [
    ([0b10110000], .oraB),
    ([0b10110001], .oraC),
    ([0b10110010], .oraD),
    ([0b10110011], .oraE),
    ([0b10110100], .oraH),
    ([0b10110101], .oraL),
    ([0b10110110], .oraM),
    ([0b10110111], .oraA),
    ([0b10111000], .cmpB),
    ([0b10111001], .cmpC),
    ([0b10111010], .cmpD),
    ([0b10111011], .cmpE),
    ([0b10111100], .cmpH),
    ([0b10111101], .cmpL),
    ([0b10111110], .cmpM),
    ([0b10111111], .cmpA)] = true := by
  decide

theorem test_decode_Cx : allRead [
    ([0b11000000], .rnz),
    ([0b11000001], .popB),
    ([0b11000010, 0x34, 0x12], .jnz 0x1234),
    ([0b11000011, 0x34, 0x12], .jmp 0x1234),
    ([0b11000100, 0x34, 0x12], .cnz 0x1234),
    ([0b11000101], .pushB),
    ([0b11000110, 0x34], .adi 0x34),
    ([0b11000111], .rst0),
    ([0b11001000], .rz),
    ([0b11001001], .ret),
    ([0b11001010, 0x34, 0x12], .jz 0x1234),
    ([0b11001011, 0x34, 0x12], .undocCB 0x1234),
    ([0b11001100, 0x34, 0x12], .cz 0x1234),
    ([0b11001101, 0x34, 0x12], .call 0x1234),
    ([0b11001110, 0x34], .aci 0x34),
    ([0b11001111], .rst1)] = true := by
  decide

theorem test_decode_Dx : allRead [
    ([0b11010000], .rnc),
    ([0b11010001], .popD),
    ([0b11010010, 0x34, 0x12], .jnc 0x1234),
    ([0b11010011, 0x34], .outPort 0x34),
    ([0b11010100, 0x34, 0x12], .cnc 0x1234),
    ([0b11010101], .pushD),
    ([0b11010110, 0x34], .sui 0x34),
    ([0b11010111], .rst2),
    ([0b11011000], .rc),
    ([0b11011001], .undocD9),
    ([0b11011010, 0x34, 0x12], .jc 0x1234),
    ([0b11011011, 0x34], .inPort 0x34),
    ([0b11011100, 0x34, 0x12], .cc 0x1234),
    ([0b11011101, 0x34, 0x12], .undocDD 0x1234),
    ([0b11011110, 0x34], .sbi 0x34),
    ([0b11011111], .rst3)] = true := by
  decide

theorem test_decode_Ex : allRead [
    ([0b11100000], .rpo),
    ([0b11100001], .popH),
    ([0b11100010, 0x34, 0x12], .jpo 0x1234),
    ([0b11100011], .xthl),
    ([0b11100100, 0x34, 0x12], .cpo 0x1234),
    ([0b11100101], .pushH),
    ([0b11100110, 0x34], .ani 0x34),
    ([0b11100111], .rst4),
    ([0b11101000], .rpe),
    ([0b11101001], .pchl),
    ([0b11101010, 0x34, 0x12], .jpe 0x1234),
    ([0b11101011], .xchg),
    ([0b11101100, 0x34, 0x12], .cpe 0x1234),
    ([0b11101101, 0x34, 0x12], .undocED 0x1234),
    ([0b11101110, 0x34], .xri 0x34),
    ([0b11101111], .rst5)] = true := by
  decide

theorem test_decode_Fx : allRead [
    ([0b11110000], .rp),
    ([0b11110001], .popPSW),
    ([0b11110010, 0x34, 0x12], .jp 0x1234),
    ([0b11110011], .di),
    ([0b11110100, 0x34, 0x12], .cp 0x1234),
    ([0b11110101], .pushPSW),
    ([0b11110110, 0x34], .ori 0x34),
    ([0b11110111], .rst6),
    ([0b11111000], .rm),
    ([0b11111001], .sphl),
    ([0b11111010, 0x34, 0x12], .jm 0x1234),
    ([0b11111011], .ei),
    ([0b11111100, 0x34, 0x12], .cm 0x1234),
    ([0b11111101, 0x34, 0x12], .undocFD 0x1234),
    ([0b11111110, 0x34], .cpi 0x34),
    ([0b11111111], .rst7)] = true := by
  decide

/-- The encoder writes the same bytes, a word low byte first. -/
theorem test_encode :
    encode (.lxiH 0x1234) = [0b00100001, 0x34, 0x12] ∧ encode (.aci 0x42) = [0b11001110, 0x42] ∧
      encode .movAM = [0b01111110] := by
  decide

/-! ## Data transfer (95_test_vectors.md 2.1) -/

/-- R140. -/
theorem test_mov_b_c :
    runs [0x41] { zero with c := 0x5A, flags := fl 1 0 1 0 1 }
      (fun s => decide (s.b = 0x5A ∧ s.c = 0x5A ∧ s.flags = fl 1 0 1 0 1) && moved s 0x2001 5) = true := by
  decide

/-- R142. -/
theorem test_mov_m_a :
    runs [0x77] { zero with a := 0x99, h := 0x21 }
      (fun s => decide (byteAt s 0x2100 = some 0x99) && moved s 0x2001 7) = true ∧
    runs [0x77] { zero with a := 0x99, h := 0x01, cfg := { defaultConfig with romWritePolicy := .ignore } }
      (fun s => decide (byteAt s 0x0100 = some 0x00) && moved s 0x2001 7) = true := by
  decide

/-- R142, R315. -/
theorem test_mov_m_a_rom :
    faults [0x77] { zero with a := 0x99, h := 0x01 }
      (.romWrite 0x0100)
      (fun s => decide (s.pc = 0x2001 ∧ byteAt s 0x0100 = some 0x00)) = true := by
  decide

/-- R141: 0x4100 is the mirror of 0x2100. -/
theorem test_mov_a_m_mirror :
    runs [0x7E] (put 0x2100 [0x77] { zero with h := 0x41 })
      (fun s => decide (s.a = 0x77) && moved s 0x2001 7) = true := by
  decide

/-- R141, R313. -/
theorem test_mov_a_m_unmapped :
    faults [0x7E] { zero with h := 0x60 }
      (.unmappedRead 0x6000)
      (fun s => decide (s.pc = 0x2001)) = true := by
  decide

/-- R144. -/
theorem test_mvi_m :
    runs [0x36, 0x3C] { zero with h := 0x23, l := 0xFF }
      (fun s => decide (byteAt s 0x23FF = some 0x3C) && moved s 0x2002 10) = true := by
  decide

/-- R145. -/
theorem test_lxi_h :
    runs [0x21, 0x34, 0x12] zero
      (fun s => decide (s.h = 0x12 ∧ s.l = 0x34) && moved s 0x2003 10) = true := by
  decide

/-- R146. -/
theorem test_lda :
    runs [0x3A, 0x80, 0x21] (put 0x2180 [0xC7] zero)
      (fun s => decide (s.a = 0xC7) && moved s 0x2003 13) = true := by
  decide

/-- R147. -/
theorem test_sta_mirror :
    runs [0x32, 0xFF, 0x5F] { zero with a := 0xE1 }
      (fun s => decide (byteAt s 0x3FFF = some 0xE1 ∧ byteAt s 0x5FFF = some 0xE1 ∧
        Memory.read s.store 0x3FFF = 0xE1) && moved s 0x2003 13) = true := by
  decide

/-- R149. -/
theorem test_shld :
    runs [0x22, 0x00, 0x22] { zero with h := 0xAE, l := 0x29 }
      (fun s => decide (byteAt s 0x2200 = some 0x29 ∧ byteAt s 0x2201 = some 0xAE) &&
        moved s 0x2003 16) = true := by
  decide

/-- R148. -/
theorem test_lhld :
    runs [0x2A, 0x00, 0x22] (put 0x2200 [0x29, 0xAE] zero)
      (fun s => decide (s.l = 0x29 ∧ s.h = 0xAE) && moved s 0x2003 16) = true := by
  decide

/-- R148: the byte at 0x4000 is the opcode at 0x2000. -/
theorem test_lhld_into_the_mirror :
    runs [0x2A, 0xFF, 0x3F] (put 0x3FFF [0x11] zero)
      (fun s => decide (s.l = 0x11 ∧ s.h = 0x2A) && moved s 0x2003 16) = true := by
  decide

/-- R151. -/
theorem test_stax_d :
    runs [0x12] { zero with a := 0x42, d := 0x23 }
      (fun s => decide (byteAt s 0x2300 = some 0x42) && moved s 0x2001 7) = true := by
  decide

/-- R150. -/
theorem test_ldax_b :
    runs [0x0A] (put 0x0000 [0x5D] { zero with a := 0xFF })
      (fun s => decide (s.a = 0x5D) && moved s 0x2001 7) = true := by
  decide

/-- R152. -/
theorem test_xchg :
    runs [0xEB] { zero with h := 0x00, l := 0xFF, d := 0x33, e := 0x55 }
      (fun s => decide (s.h = 0x33 ∧ s.l = 0x55 ∧ s.d = 0x00 ∧ s.e = 0xFF) && moved s 0x2001 4) = true := by
  decide

/-! ## Arithmetic (95_test_vectors.md 2.2) -/

/-- R172. -/
theorem test_add_b :
    runs [0x80] { zero with a := 0x2E, b := 0x6C }
      (gives 0x9A (fl 1 0 1 1 0) 1 4) = true ∧
    runs [0x80] { zero with a := 0xFF, b := 0x01 }
      (gives 0x00 (fl 0 1 1 1 1) 1 4) = true := by
  decide

/-- R175. -/
theorem test_adc_b :
    runs [0x88] { zero with a := 0x3D, b := 0x42, flags := fl 0 0 0 0 1 }
      (gives 0x80 (fl 1 0 1 0 0) 1 4) = true ∧
    runs [0x88] { zero with a := 0xFF, b := 0x00, flags := fl 0 0 0 0 1 }
      (gives 0x00 (fl 0 1 1 1 1) 1 4) = true := by
  decide

/-- R174. -/
theorem test_adi :
    runs [0xC6, 0x80] { zero with a := 0x80 }
      (gives 0x00 (fl 0 1 0 1 1) 2 7) = true := by
  decide

/-- R178. -/
theorem test_sub_b :
    runs [0x90] { zero with a := 0x3E, b := 0x3E }
      (gives 0x00 (fl 0 1 1 1 0) 1 4) = true ∧
    runs [0x90] { zero with a := 0x00, b := 0x01 }
      (gives 0xFF (fl 1 0 0 1 1) 1 4) = true ∧
    runs [0x90] { zero with a := 0x10, b := 0x01 }
      (gives 0x0F (fl 0 0 0 1 0) 1 4) = true := by
  decide

/-- R181. -/
theorem test_sbb_b :
    runs [0x98] { zero with a := 0x04, b := 0x02, flags := fl 0 0 0 0 1 }
      (gives 0x01 (fl 0 0 1 0 0) 1 4) = true ∧
    runs [0x98] { zero with a := 0x00, b := 0x00, flags := fl 0 0 0 0 1 }
      (gives 0xFF (fl 1 0 0 1 1) 1 4) = true := by
  decide

/-- R183. -/
theorem test_sbi :
    runs [0xDE, 0x01] { zero with a := 0x00 }
      (gives 0xFF (fl 1 0 0 1 1) 2 7) = true := by
  decide

/-- R180. -/
theorem test_sui :
    runs [0xD6, 0x0F] { zero with a := 0x0F, flags := fl 0 0 0 0 1 }
      (gives 0x00 (fl 0 1 1 1 0) 2 7) = true := by
  decide

/-- R184. -/
theorem test_inr_b :
    runs [0x04] { zero with b := 0xFF, flags := fl 0 0 0 0 1 }
      (fun s => decide (s.b = 0x00 ∧ s.flags = fl 0 1 1 1 1) && moved s 0x2001 5) = true ∧
    runs [0x04] { zero with b := 0x0F }
      (fun s => decide (s.b = 0x10 ∧ s.flags = fl 0 0 1 0 0) && moved s 0x2001 5) = true ∧
    runs [0x04] { zero with b := 0x7F }
      (fun s => decide (s.b = 0x80 ∧ s.flags = fl 1 0 1 0 0) && moved s 0x2001 5) = true := by
  decide

/-- R186. -/
theorem test_dcr_b :
    runs [0x05] { zero with b := 0x00 }
      (fun s => decide (s.b = 0xFF ∧ s.flags = fl 1 0 0 1 0) && moved s 0x2001 5) = true ∧
    runs [0x05] { zero with b := 0x10, flags := fl 0 0 0 0 1 }
      (fun s => decide (s.b = 0x0F ∧ s.flags = fl 0 0 0 1 1) && moved s 0x2001 5) = true ∧
    runs [0x05] { zero with b := 0x01 }
      (fun s => decide (s.b = 0x00 ∧ s.flags = fl 0 1 1 1 0) && moved s 0x2001 5) = true := by
  decide

/-- R185. -/
theorem test_inr_m :
    runs [0x34] (put 0x2100 [0x3F] { zero with h := 0x21 })
      (fun s => decide (byteAt s 0x2100 = some 0x40 ∧ s.flags = fl 0 0 1 0 0) && moved s 0x2001 10) = true := by
  decide

/-- R187, R126: the flags were written before the write faulted. -/
theorem test_dcr_m_rom :
    faults [0x35] { zero with h := 0x01 }
      (.romWrite 0x0100)
      (fun s => decide (s.flags = fl 1 0 0 1 0 ∧ byteAt s 0x0100 = some 0x00 ∧ s.pc = 0x2001)) = true := by
  decide

/-- R188. -/
theorem test_inx_h :
    runs [0x23] { zero with h := 0xFF, l := 0xFF, flags := fl 1 0 1 0 1 }
      (fun s => decide (s.h = 0 ∧ s.l = 0 ∧ s.flags = fl 1 0 1 0 1) && moved s 0x2001 5) = true := by
  decide

/-- R188. -/
theorem test_inx_sp :
    runs [0x33] { zero with sp := 0xFFFF }
      (fun s => decide (s.sp = 0) && moved s 0x2001 5) = true := by
  decide

/-- R189. -/
theorem test_dcx_b :
    runs [0x0B] { zero with flags := fl 1 0 1 0 1 }
      (fun s => decide (s.b = 0xFF ∧ s.c = 0xFF ∧ s.flags = fl 1 0 1 0 1) && moved s 0x2001 5) = true := by
  decide

/-- R190. -/
theorem test_dad_b :
    runs [0x09] { zero with h := 0xA1, l := 0x7B, b := 0x33, c := 0x9F, flags := fl 1 0 1 0 1 }
      (fun s => decide (s.h = 0xD5 ∧ s.l = 0x1A ∧ s.flags = fl 1 0 1 0 0) && moved s 0x2001 10) = true := by
  decide

/-- R190. -/
theorem test_dad_h :
    runs [0x29] { zero with h := 0x80 }
      (fun s => decide (s.h = 0 ∧ s.l = 0 ∧ s.flags.cy = true) && moved s 0x2001 10) = true := by
  decide

/-- R190. -/
theorem test_dad_sp :
    runs [0x39] { zero with l := 0x01, sp := 0xFFFF, flags := fl 0 1 0 0 0 }
      (fun s => decide (s.h = 0 ∧ s.l = 0 ∧ s.flags = fl 0 1 0 0 1) && moved s 0x2001 10) = true := by
  decide

/-- R191. -/
theorem test_daa :
    runs [0x27] { zero with a := 0x9B, flags := fl 0 0 0 0 0 }
      (gives 0x01 (fl 0 0 1 0 1) 1 4) = true ∧
    runs [0x27] { zero with a := 0x9A, flags := fl 0 0 0 0 0 }
      (gives 0x00 (fl 0 1 1 1 1) 1 4) = true ∧
    runs [0x27] { zero with a := 0xFF, flags := fl 0 0 0 0 0 }
      (gives 0x65 (fl 0 0 1 1 1) 1 4) = true ∧
    runs [0x27] { zero with a := 0x00, flags := fl 0 0 0 0 1 }
      (gives 0x60 (fl 0 0 0 1 1) 1 4) = true ∧
    runs [0x27] { zero with a := 0x15, flags := fl 0 0 1 0 0 }
      (gives 0x1B (fl 0 0 0 1 0) 1 4) = true := by
  decide

/-- R191. -/
theorem test_daa_more :
    runs [0x27] { zero with a := 0x09, flags := fl 0 0 0 0 0 }
      (gives 0x09 (fl 0 0 0 1 0) 1 4) = true ∧
    runs [0x27] { zero with a := 0x99, flags := fl 0 0 0 0 0 }
      (gives 0x99 (fl 1 0 0 1 0) 1 4) = true ∧
    runs [0x27] { zero with a := 0x99, flags := fl 0 0 0 0 1 }
      (gives 0xF9 (fl 1 0 0 1 1) 1 4) = true ∧
    runs [0x27] { zero with a := 0x0A, flags := fl 0 0 0 0 0 }
      (gives 0x10 (fl 0 0 1 0 0) 1 4) = true ∧
    runs [0x27] { zero with a := 0xA0, flags := fl 0 0 0 0 0 }
      (gives 0x00 (fl 0 1 0 1 1) 1 4) = true := by
  decide

/-! ## Logic (95_test_vectors.md 2.3) -/

/-- R211. -/
theorem test_ana_b :
    runs [0xA0] { zero with a := 0x0F, b := 0xF0, flags := fl 0 0 0 0 1 }
      (gives 0x00 (fl 0 1 1 1 0) 1 4) = true ∧
    runs [0xA0] { zero with a := 0x03, b := 0x05, flags := fl 0 0 0 0 1 }
      (gives 0x01 (fl 0 0 0 0 0) 1 4) = true := by
  decide

/-- R213. -/
theorem test_ani :
    runs [0xE6, 0x0F] { zero with a := 0x3A }
      (gives 0x0A (fl 0 0 1 1 0) 2 7) = true := by
  decide

/-- R214. -/
theorem test_xra_a :
    runs [0xAF] { zero with a := 0x5C, flags := fl 0 0 0 0 1 }
      (gives 0x00 (fl 0 1 0 1 0) 1 4) = true := by
  decide

/-- R216. -/
theorem test_xri :
    runs [0xEE, 0xFF] { zero with a := 0x5C }
      (gives 0xA3 (fl 1 0 0 1 0) 2 7) = true := by
  decide

/-- R217. -/
theorem test_ora_b :
    runs [0xB0] { zero with a := 0x33, b := 0x0F, flags := fl 0 0 0 0 1 }
      (gives 0x3F (fl 0 0 0 1 0) 1 4) = true := by
  decide

/-- R219. -/
theorem test_ori :
    runs [0xF6, 0x80] { zero with a := 0x01 }
      (gives 0x81 (fl 1 0 0 1 0) 2 7) = true := by
  decide

/-- R220. -/
theorem test_cmp_b :
    runs [0xB8] { zero with a := 0x0A, b := 0x05 }
      (gives 0x0A (fl 0 0 1 1 0) 1 4) = true ∧
    runs [0xB8] { zero with a := 0x02, b := 0x05 }
      (gives 0x02 (fl 1 0 0 0 1) 1 4) = true ∧
    runs [0xB8] { zero with a := 0x05, b := 0x05 }
      (gives 0x05 (fl 0 1 1 1 0) 1 4) = true := by
  decide

/-- R222. -/
theorem test_cpi :
    runs [0xFE, 0x40] { zero with a := 0x4A }
      (gives 0x4A (fl 0 0 1 1 0) 2 7) = true ∧
    runs [0xFE, 0xFF] { zero with a := 0x00 }
      (gives 0x00 (fl 0 0 0 0 1) 2 7) = true := by
  decide

/-- R223. -/
theorem test_rlc :
    runs [0x07] { zero with a := 0xF2, flags := fl 1 1 1 1 0 }
      (gives 0xE5 (fl 1 1 1 1 1) 1 4) = true ∧
    runs [0x07] { zero with a := 0x80, flags := fl 1 1 1 1 0 }
      (gives 0x01 (fl 1 1 1 1 1) 1 4) = true := by
  decide

/-- R224. -/
theorem test_rrc :
    runs [0x0F] { zero with a := 0xF2, flags := fl 1 1 1 1 0 }
      (gives 0x79 (fl 1 1 1 1 0) 1 4) = true ∧
    runs [0x0F] { zero with a := 0x01, flags := fl 1 1 1 1 0 }
      (gives 0x80 (fl 1 1 1 1 1) 1 4) = true := by
  decide

/-- R225. -/
theorem test_ral :
    runs [0x17] { zero with a := 0xB5, flags := fl 1 1 1 1 0 }
      (gives 0x6A (fl 1 1 1 1 1) 1 4) = true ∧
    runs [0x17] { zero with a := 0x00, flags := fl 1 1 1 1 1 }
      (gives 0x01 (fl 1 1 1 1 0) 1 4) = true := by
  decide

/-- R226. -/
theorem test_rar :
    runs [0x1F] { zero with a := 0x6A, flags := fl 1 1 1 1 1 }
      (gives 0xB5 (fl 1 1 1 1 0) 1 4) = true ∧
    runs [0x1F] { zero with a := 0x01, flags := fl 1 1 1 1 0 }
      (gives 0x00 (fl 1 1 1 1 1) 1 4) = true := by
  decide

/-- R227. -/
theorem test_cma :
    runs [0x2F] { zero with a := 0x51, flags := fl 1 1 1 1 1 }
      (gives 0xAE (fl 1 1 1 1 1) 1 4) = true := by
  decide

/-- R228. -/
theorem test_cmc :
    runs [0x3F] { zero with a := 0x51, flags := fl 1 1 1 1 1 }
      (gives 0x51 (fl 1 1 1 1 0) 1 4) = true ∧
    runs [0x3F] { zero with a := 0x51, flags := fl 1 1 1 1 0 }
      (gives 0x51 (fl 1 1 1 1 1) 1 4) = true := by
  decide

/-- R229. -/
theorem test_stc :
    runs [0x37] { zero with a := 0x51, flags := fl 1 1 1 1 0 }
      (gives 0x51 (fl 1 1 1 1 1) 1 4) = true := by
  decide

/-! ## Branches (95_test_vectors.md 2.4) -/

/-- R250. -/
theorem test_jmp :
    runs [0xC3, 0x00, 0x3C] zero
      (fun s => moved s 0x3C00 10) = true := by
  decide

/-- R251: taken and not. -/
theorem test_jz :
    runs [0xCA, 0x00, 0x21] { zero with flags := fl 0 1 0 0 0 }
      (fun s => moved s 0x2100 10) = true ∧
    runs [0xCA, 0x00, 0x21] zero
      (fun s => moved s 0x2003 10) = true := by
  decide

/-- R252. -/
theorem test_call :
    runs [0xCD, 0x00, 0x21] { zero with sp := 0x2400 }
      (fun s => decide (s.sp = 0x23FE ∧ byteAt s 0x23FE = some 0x03 ∧ byteAt s 0x23FF = some 0x20) &&
        moved s 0x2100 17) = true := by
  decide

/-- R252, R84: the high byte is written first. -/
theorem test_call_into_rom :
    faults [0xCD, 0x00, 0x21] { zero with sp := 0x2000 }
      (.romWrite 0x1FFF)
      (fun s => decide (s.sp = 0x2000 ∧ s.pc = 0x2003)) = true := by
  decide

/-- R253. -/
theorem test_cnz_not_taken :
    runs [0xC4, 0x00, 0x21] { zero with sp := 0x2400, flags := fl 0 1 0 0 0 }
      (fun s => decide (s.sp = 0x2400) && moved s 0x2003 11) = true := by
  decide

/-- R253. -/
theorem test_cpe_taken :
    runs [0xEC, 0x00, 0x21] { zero with sp := 0x2400, flags := fl 0 0 0 1 0 }
      (fun s => decide (s.sp = 0x23FE) && moved s 0x2100 17) = true := by
  decide

/-- R254. -/
theorem test_ret :
    runs [0xC9] (put 0x23FE [0x03, 0x20] { zero with sp := 0x23FE })
      (fun s => decide (s.sp = 0x2400) && moved s 0x2003 10) = true := by
  decide

/-- R255. -/
theorem test_rc_not_taken :
    runs [0xD8] { zero with sp := 0x23FE }
      (fun s => decide (s.sp = 0x23FE) && moved s 0x2001 5) = true := by
  decide

/-- R255. -/
theorem test_rm_taken :
    runs [0xF8] (put 0x23FE [0x34, 0x12] { zero with sp := 0x23FE, flags := fl 1 0 0 0 0 })
      (fun s => decide (s.sp = 0x2400) && moved s 0x1234 11) = true := by
  decide

/-- R256. -/
theorem test_rst_7 :
    runs [0xFF] { zero with sp := 0x2400, inte := true }
      (fun s => decide (s.sp = 0x23FE ∧ byteAt s 0x23FE = some 0x01 ∧ byteAt s 0x23FF = some 0x20 ∧
        s.inte = true) && moved s 0x0038 11) = true := by
  decide

/-- R257. -/
theorem test_pchl :
    runs [0xE9] { zero with h := 0x12, l := 0x34 }
      (fun s => moved s 0x1234 5) = true := by
  decide

/-- R126: every operand byte is fetched, taken or not; PC stays at the instruction. -/
theorem test_jnz_operand_unmapped :
    stops (step (put 0x5FFE [0xC2, 0x00] { zero with pc := 0x5FFE, flags := fl 0 1 0 0 0 }))
      (.unmappedRead 0x6000) (fun s => decide (s.pc = 0x5FFE)) = true := by
  decide

/-! ## Stack, ports and machine control (95_test_vectors.md 2.5) -/

/-- R280. -/
theorem test_push_b :
    runs [0xC5] { zero with b := 0x8F, c := 0x9D, sp := 0x2400 }
      (fun s => decide (s.sp = 0x23FE ∧ byteAt s 0x23FE = some 0x9D ∧ byteAt s 0x23FF = some 0x8F) &&
        moved s 0x2001 11) = true := by
  decide

/-- R280, R314: SP-1 wraps. -/
theorem test_push_b_unmapped :
    faults [0xC5] zero
      (.unmappedWrite 0xFFFF)
      (fun s => decide (s.sp = 0x0000)) = true := by
  decide

/-- R281. -/
theorem test_push_psw :
    runs [0xF5] { zero with a := 0x1F, sp := 0x2400, flags := fl 1 0 1 1 1 }
      (fun s => decide (s.sp = 0x23FE ∧ byteAt s 0x23FE = some 0x97 ∧ byteAt s 0x23FF = some 0x1F) &&
        moved s 0x2001 11) = true ∧
    runs [0xF5] { zero with sp := 0x2400 }
      (fun s => decide (byteAt s 0x23FE = some 0x02)) = true := by
  decide

/-- R283. -/
theorem test_pop_psw :
    runs [0xF1] (put 0x23FE [0xFF, 0xAA] { zero with sp := 0x23FE })
      (fun s => gives 0xAA (fl 1 1 1 1 1) 1 10 s && decide (s.sp = 0x2400 ∧ packFlags s.flags = 0xD7)) = true := by
  decide

/-- R282. -/
theorem test_pop_h :
    runs [0xE1] (put 0x23FE [0x3D, 0x93] { zero with sp := 0x23FE })
      (fun s => decide (s.l = 0x3D ∧ s.h = 0x93 ∧ s.sp = 0x2400) && moved s 0x2001 10) = true := by
  decide

/-- R282, R313. -/
theorem test_pop_b_unmapped :
    faults [0xC1] { zero with sp := 0x5FFF, b := 0x12 }
      (.unmappedRead 0x6000)
      (fun s => decide (s.sp = 0x5FFF ∧ s.b = 0x12 ∧ s.c = 0x00)) = true := by
  decide

/-- R284. -/
theorem test_xthl :
    runs [0xE3] (put 0x23FE [0xF0, 0x0D] { zero with sp := 0x23FE, h := 0x0B, l := 0x3C })
      (fun s => decide (s.h = 0x0D ∧ s.l = 0xF0 ∧ s.sp = 0x23FE ∧ byteAt s 0x23FE = some 0x3C ∧
        byteAt s 0x23FF = some 0x0B) && moved s 0x2001 18) = true := by
  decide

/-- R285. -/
theorem test_sphl :
    runs [0xF9] { zero with h := 0x24 }
      (fun s => decide (s.sp = 0x2400) && moved s 0x2001 5) = true := by
  decide

/-- R287, R330, R331. -/
theorem test_out_shift :
    runs [0xD3, 0x04] { zero with a := 0xAA, shift := 0x1234 }
      (fun s => decide (s.shift = 0xAA12) && moved s 0x2002 10) = true ∧
    runs [0xD3, 0x02] { zero with a := 0x0F }
      (fun s => decide (s.shiftOff = 7)) = true ∧
    runs [0xD3, 0x02] { zero with a := 0xFA }
      (fun s => decide (s.shiftOff = 2)) = true := by
  decide

/-- R96. -/
theorem test_out_event :
    runs [0xD3, 0x06] { zero with a := 0x01 }
      (fun s => decide (s.outputs = [OutputEvent.mk 6 0x01] ∧ s.shift = 0) && moved s 0x2002 10) = true := by
  decide

/-- R286, R332. -/
theorem test_in_shift_result :
    runs [0xDB, 0x03] { zero with shift := 0xFFAA, shiftOff := 0 }
      (fun s => decide (s.a = 0xFF) && moved s 0x2002 10) = true ∧
    runs [0xDB, 0x03] { zero with shift := 0xFFAA, shiftOff := 7 }
      (fun s => decide (s.a = 0xD5) && moved s 0x2002 10) = true ∧
    runs [0xDB, 0x03] { zero with shift := 0x12F0, shiftOff := 4 }
      (fun s => decide (s.a = 0x2F) && moved s 0x2002 10) = true ∧
    runs [0xDB, 0x03] { zero with shift := 0xABCD, shiftOff := 3 }
      (fun s => decide (s.a = 0x5E) && moved s 0x2002 10) = true := by
  decide

/-- R95: with no handler 0; with one the machine goes on, a draw is used up, and the byte is free. -/
theorem test_in_handler :
    runs [0xDB, 0x01] { zero with a := 0x77, cfg := { defaultConfig with inputHandler := .absent } }
      (fun s => decide (s.a = 0x00 ∧ s.inputDraws = 0) && moved s 0x2002 10) = true ∧
    runs [0xDB, 0x01] zero
      (fun s => decide (s.inputDraws = 1) && moved s 0x2002 10) = true := by
  decide

/-- R288. -/
theorem test_ei :
    runs [0xFB] zero
      (fun s => decide (s.inte = true ∧ s.eiShadow = false) && moved s 0x2001 4) = true ∧
    runs [0xFB] { zero with cfg := { defaultConfig with eiDelay := true } }
      (fun s => decide (s.inte = true ∧ s.eiShadow = true)) = true := by
  decide

/-- R289. -/
theorem test_di :
    runs [0xF3] { zero with inte := true }
      (fun s => decide (s.inte = false) && moved s 0x2001 4) = true := by
  decide

/-- R290. -/
theorem test_hlt :
    runs [0x76] zero
      (fun s => decide (s.halt = true) && moved s 0x2001 7) = true := by
  decide

/-- R292. -/
theorem test_halted_step :
    after (step { zero with halt := true, pc := 0x2001 })
      (fun s => decide (s.halt = true) && moved s 0x2001 4) = true := by
  decide

/-- R291. -/
theorem test_nop :
    runs [0x00] { zero with a := 0x12, flags := fl 1 0 1 0 1 }
      (gives 0x12 (fl 1 0 1 0 1) 1 4) = true := by
  decide

/-- R293, R312. -/
theorem test_undocumented_fault :
    faults [0x08] zero
      (.unimplementedOpcode 0x08 0x2000)
      (fun s => decide (s.pc = 0x2001)) = true ∧
    faults [0xDD, 0x00, 0x30] zero
      (.unimplementedOpcode 0xDD 0x2000)
      (fun s => decide (s.pc = 0x2003)) = true := by
  decide

/-- R293. -/
theorem test_undocumented_alias :
    runs [0x08] { zero with cfg := { defaultConfig with undocPolicy := .aliased } }
      (fun s => moved s 0x2001 4) = true ∧
    runs [0xCB, 0x00, 0x30] { zero with cfg := { defaultConfig with undocPolicy := .aliased } }
      (fun s => moved s 0x3000 10) = true := by
  decide

/-! ## Interrupts and the scheduler (95_test_vectors.md 3 and 4) -/

/-- R324 (S7): an accepted interrupt, and then one with INTE = 0. -/
theorem test_interrupt_accepted :
    reports (interrupt 1 { zero with inte := true, sp := 0x2400, pc := 0x10AB }) (fun s n =>
      decide (n = 11 ∧ s.pc = 0x0008 ∧ s.sp = 0x23FE ∧ s.inte = false ∧
        byteAt s 0x23FE = some 0xAB ∧ byteAt s 0x23FF = some 0x10)) = true ∧
    reports (interrupt 1 { zero with sp := 0x2400, pc := 0x10AB }) (fun s n =>
      decide (n = 0 ∧ s.pc = 0x10AB ∧ s.sp = 0x2400)) = true := by
  decide

/-- R326 with `EI_DELAY` = 1: the NOP after EI delivers the held interrupt, a DI drops it. -/
theorem test_shadow :
    reports (engineStep (put 0x2001 [0x00] { zero with
        cfg := { defaultConfig with eiDelay := true }, inte := true, eiShadow := true
        pending := some 1, pc := 0x2001, sp := 0x2400 })) (fun s n =>
      decide (n = 15 ∧ s.pc = 0x0008 ∧ s.inte = false ∧ s.pending = none ∧
        byteAt s 0x23FE = some 0x02 ∧ byteAt s 0x23FF = some 0x20)) = true ∧
    reports (engineStep (put 0x2001 [0xF3] { zero with
        cfg := { defaultConfig with eiDelay := true }, inte := true, eiShadow := true
        pending := some 1, pc := 0x2001, sp := 0x2400 })) (fun s n =>
      decide (n = 4 ∧ s.pc = 0x2002 ∧ s.sp = 0x2400 ∧ s.inte = false ∧ s.pending = none)) = true := by
  decide

/-- R317, and R324 with a faulting push: HALT and INTE are already cleared. -/
theorem test_interrupt_faults :
    interrupt 8 zero = .fault (.badInterruptNumber 8
      { zero with fault := some (.badInterruptNumber 8) }) ∧
    interrupt 1 { zero with inte := true, halt := true, sp := 0x2000, pc := 0x2345 } =
      .fault (.romWrite 0x1FFF
        { zero with sp := 0x2000, pc := 0x2345, fault := some (.romWrite 0x1FFF) }) := by
  exact ⟨rfl, rfl⟩

/-- R340, R341, R343: the default numbers. -/
theorem test_scheduler_numbers :
    frameCycles defaultConfig = 33333 ∧ scanlineCycles defaultConfig = 148 ∧
      scanline { zero with cyc := 14207 } = 95 ∧ scanline { zero with cyc := 14208 } = 96 := by
  decide

/-- R343, R344, R345 (P4): a halted step at CYC = 14205 accepts vector 1; one at 33329 accepts vector 2 and
starts a frame with the 11 cycles over. -/
theorem test_offers :
    after (step { zero with halt := true, inte := true, sp := 0x2400, pc := 0x004C, cyc := 14205 })
      (fun s => decide (s.midFired = true ∧ s.halt = false) && moved s 0x0008 14220) = true ∧
    after (step { zero with
        halt := true, inte := true, sp := 0x2400, pc := 0x004C, cyc := 33329, midFired := true })
      (fun s => decide (s.midFired = false ∧ s.frame = 1) && moved s 0x0010 11) = true := by
  decide

/-! ## The host's moves -/

/-- R352, R99: a single step charges no cycles; a probe reads, or fails and changes nothing. -/
theorem test_host_moves :
    after (hostSingleStep (code [0x3E, 0x12] zero)) (fun s =>
      decide (s.a = 0x12 ∧ s.pc = 0x2002 ∧ s.cyc = 0)) = true ∧
    probeRead zero 0x6000 = none ∧ (probeWrite zero 0x0000 0x55).2 = false ∧
      byteAt (probeWrite zero 0x4000 0x42).1 0x2000 = some 0x42 := by
  decide

/-- R352: opcode, size, variant, whether it would branch, and the target, at an address. -/
theorem test_queries_at_an_address :
    (let s : State := code [0xCA, 0x00, 0x21] { zero with flags := fl 0 1 0 0 0 };
      probeOpcode s 0x2000 = some 0xCA ∧ probeSize s 0x2000 = some 3 ∧
        callVariantAt s 0x2000 = some false ∧ wouldBranchAt s 0x2000 = some true ∧
        wouldBranchAt { s with flags := fl 0 0 0 0 0 } 0x2000 = some false ∧
        branchTargetAt s 0x2000 = some 0x2100) ∧
    (let s : State := put 0x23FE [0x34, 0x12] (code [0xF8] { zero with sp := 0x23FE });
      returnVariantAt s 0x2000 = some true ∧ branchTargetAt s 0x2000 = some 0x1234) := by
  decide

/-- R352, R123: a CALL whose operand bytes cannot be read is still a CALL of size 3 that would branch. -/
theorem test_queries_ask_the_opcode_alone :
    let s := put 0x5FFF [0xCD] zero
    probeSize s 0x5FFF = some 3 ∧ callVariantAt s 0x5FFF = some true ∧
      wouldBranchAt s 0x5FFF = some true ∧ branchTargetAt s 0x5FFF = none ∧
      callVariantAt s 0x6000 = none := by
  decide

/-! ## Witnesses: each statement's hypotheses are met -/

theorem after_exists {o : Out} {p : State → Bool} (h : after o p = true) :
    ∃ s, o = .next s ∧ p s = true := by
  cases o with
  | next s => exact ⟨s, rfl, h⟩
  | fault => cases h
  | refused => cases h

theorem stops_exists {o : Out} {r : FaultRecord} {p : State → Bool} (h : stops o r p = true) :
    ∃ f, o = .fault f := by
  cases o with
  | next => cases h
  | fault f => exact ⟨f, rfl⟩
  | refused => cases h

/-- BC = 0x2200, DE = 0x2300, HL = 0x2100, SP = 0x2400, PC = 0x2003, CY set, and 0x57 at 0x2100. -/
def sample : State :=
  put 0x2100 [0x57] { zero with
    a := 0x99, b := 0x22, d := 0x23, h := 0x21, sp := 0x2400, pc := 0x2003, flags := fl 0 0 0 0 1 }

/-- `sample` with writes to ROM ignored. -/
def lenient : State := { sample with cfg := { defaultConfig with romWritePolicy := .ignore } }

/-- `sample` with the twelve undocumented opcodes running. -/
def undocRuns : State := { sample with cfg := { defaultConfig with undocPolicy := .aliased } }

/-- `sample` with `EI_DELAY` = 1, in the shadow of an EI, with interrupt 7 held. -/
def shadowed : State :=
  { sample with
    cfg := { defaultConfig with eiDelay := true }, inte := true, eiShadow := true, pending := some 7 }

/-- `sample` with a store of 0x3FFF bytes: the last byte of RAM lies past it. -/
def smallStore : State := { sample with cfg := { defaultConfig with storeSize := 0x3FFF } }

/-- `sample` with RAM up to 0x23FF and ROM from 0x2400 on. -/
def upperRom : State :=
  { sample with cfg := { defaultConfig with chunkMap :=
    [ { start := 0x2000, phys := 0x2000, len := 0x400, kind := .ram },
      { start := 0x2400, phys := 0x2400, len := 0x400, kind := .rom } ] } }

theorem witness_EncodeOfDecode : decode [0xC3, 0x34, 0x12, 0x00] = .ok (.jmp 0x1234, [0x00]) := by
  decide

theorem witness_OpcodeFixesLength :
    (Instr.jmp 0x0000).opcode = (Instr.jmp 0xFFFF).opcode ∧ Instr.jmp 0x0000 ≠ .jmp 0xFFFF := by
  decide

/-- Four empty ROM files under the default parameters, at the last ROM byte and both ends of RAM. -/
theorem witness_ConstructionLeaves :
    (∃ s, construct (List.replicate 4 (List.replicate 2048 0)) defaultConfig ResetDraw.zero true =
      some s) ∧ 0x1FFF < 0x2000 ∧ Memory.wf ResetDraw.zero.ram ∧
      (0x2000 ≤ 0x2000 ∧ 0x2000 < defaultConfig.storeSize) ∧
      0x2000 ≤ 0x3FFF ∧ 0x3FFF < defaultConfig.storeSize := by
  refine ⟨⟨_, if_pos ⟨List.length_replicate, ?_, by decide⟩⟩, by decide, by decide, by decide, by decide,
    by decide⟩
  intro f hf
  rw [List.eq_of_mem_replicate hf, List.length_replicate]

theorem witness_StepKeepsInvariant : State.reset.Inv ∧ ∃ s', step State.reset = .next s' :=
  ⟨by decide, (after_exists (p := fun _ => true) (by decide)).imp fun _ h => h.1⟩

theorem witness_StepKeepsParameters :
    (∃ s', step sample = .next s') ∧ ∃ f, step (code [0x08] zero) = .fault f :=
  ⟨(after_exists (p := fun _ => true) (by decide)).imp fun _ h => h.1,
    stops_exists (r := .unimplementedOpcode 0x08 0x2000) (p := fun _ => true) (by decide)⟩

theorem default_writes_are_ram {addr : Word} {k : Nat}
    (h : resolveWrite defaultConfig addr = .found k) : 0x2000 ≤ k := by
  unfold resolveWrite at h
  split at h
  · cases h
  · next ch hc =>
    have hm : ch ∈ defaultChunkMap := List.mem_of_find?_eq_some hc
    split at h
    · cases h
    · next hk =>
      injection h with h
      simp only [defaultChunkMap, List.mem_cons, List.not_mem_nil, or_false] at hm
      rcases hm with rfl | rfl | rfl
      · cases hk
      · simp only [physOffset] at h; omega
      · simp only [physOffset] at h; omega

/-- The first and the last byte of ROM, with a step that completes and one that faults. -/
theorem witness_RomNeverChanges :
    (∀ addr, resolveWrite defaultConfig addr ≠ .found 0) ∧
      (∀ addr, resolveWrite defaultConfig addr ≠ .found 0x1FFF) ∧
      (∃ s', step (code [0x32, 0x00, 0x20] zero) = .next s') ∧
      ∃ f, step (code [0x32, 0xFF, 0x1F] zero) = .fault f :=
  ⟨fun _ h => absurd (default_writes_are_ram h) (by decide),
    fun _ h => absurd (default_writes_are_ram h) (by decide),
    (after_exists (p := fun _ => true) (by decide)).imp fun _ h => h.1,
    stops_exists (r := .romWrite 0x1FFF) (p := fun _ => true) (by decide)⟩

theorem witness_FaultIsTerminal :
    (∃ f, step (code [0xC5] zero) = .fault f) ∧
      ({ zero with fault := some (.unmappedRead 0x6000) } : State).fault ≠ none ∧ 7 < 8 :=
  ⟨stops_exists (r := .unmappedWrite 0xFFFF) (p := fun _ => true) (by decide), by decide, by decide⟩

theorem witness_RegisterFileLaw : RegPair.sp ≠ .hl ∧ RegPair.bc ≠ .de := by decide

/-- INR B: it may not write C, SP or PC, nor CY. INX B: nor any flag. -/
theorem witness_RegisterFrame_FlagFrame :
    (∃ s', exec .inrB sample = .next s') ∧ (∃ s', exec .inxB sample = .next s') ∧
      mayWriteReg Instr.inrB.opcode .c = false ∧ mayWriteSp Instr.inrB.opcode = false ∧
      mayWritePc Instr.inrB.opcode = false ∧ mayWriteCy Instr.inrB.opcode = false ∧
      mayWriteZsp Instr.inxB.opcode = false :=
  ⟨⟨_, rfl⟩, ⟨_, rfl⟩, by decide⟩

theorem witness_ControlFrame :
    (∃ s', exec .inrB sample = .next s') ∧ Instr.inrB ≠ .ei ∧ Instr.inrB ≠ .di ∧
      Instr.inrB ≠ .hlt ∧ (∀ p, Instr.inrB ≠ .outPort p) ∧ ∀ p, Instr.inrB ≠ .inPort p :=
  ⟨⟨_, rfl⟩, by decide, by decide, by decide,
    fun _ h => absurd (congrArg Instr.opcode h) (show (0x04 : Byte) ≠ 0xD3 by decide),
    fun _ h => absurd (congrArg Instr.opcode h) (show (0x04 : Byte) ≠ 0xDB by decide)⟩

/-- STA 0x5FFF leaves the byte below and the last byte of ROM. -/
theorem witness_MemoryFrame :
    (∃ s', exec (.sta 0x5FFF) sample = .next s') ∧
      ∀ addr ∈ [(0x5FFE : Word), 0x1FFF], ∀ x ∈ storeAddresses (.sta 0x5FFF) sample,
        resolveRead sample.cfg addr ≠ resolveRead sample.cfg x := by
  refine ⟨⟨_, rfl⟩, fun addr ha x hx => ?_⟩
  have h1 : resolveRead sample.cfg 0x5FFF = some 0x3FFF := by decide
  have h2 : resolveRead sample.cfg 0x5FFE = some 0x3FFE := by decide
  have h3 : resolveRead sample.cfg 0x1FFF = some 0x1FFF := by decide
  rw [List.mem_singleton.mp hx, h1]
  rcases List.mem_pair.mp ha with rfl | rfl
  · rw [h2]; decide
  · rw [h3]; decide

/-- The first and the last unmapped address; the last address of each chunk of the default map; an offset
past the store. -/
theorem witness_AccessRule :
    (∀ ch ∈ sample.cfg.chunkMap, chunkCovers 0x6000 ch = false) ∧
      (∀ ch ∈ sample.cfg.chunkMap, chunkCovers 0xFFFF ch = false) ∧
      (∃ ch, sample.cfg.chunkMap = [] ++ ch :: defaultChunkMap.drop 1 ∧ ch.kind = .rom ∧
        chunkCovers 0x1FFF ch = true ∧ sample.cfg.romWritePolicy = .fault ∧
        lenient.cfg.chunkMap = sample.cfg.chunkMap ∧ lenient.cfg.romWritePolicy = .ignore) ∧
      (∃ ch, sample.cfg.chunkMap = defaultChunkMap.take 1 ++ ch :: defaultChunkMap.drop 2 ∧
        ch.kind = .ram ∧ (∀ x ∈ defaultChunkMap.take 1, chunkCovers 0x2000 x = false) ∧
        chunkCovers 0x2000 ch = true) ∧
      ∃ ch, sample.cfg.chunkMap = defaultChunkMap.take 2 ++ ch :: [] ∧ ch.kind = .ram ∧
        (∀ x ∈ defaultChunkMap.take 2, chunkCovers 0x5FFF x = false) ∧
        chunkCovers 0x5FFF ch = true ∧ ¬ ch.phys + (0x5FFF - ch.start.toNat) < 0x3FFF := by
  refine ⟨by decide, by decide, ⟨_, rfl, ?_⟩, ⟨_, rfl, ?_⟩, ⟨_, rfl, ?_⟩⟩ <;> decide

theorem witness_ReadAfterWrite :
    Memory.wf sample.store ∧ ramAt sample 0x4000 0x2000 ∧
      resolveRead sample.cfg 0x2000 = some 0x2000 ∧ resolveRead sample.cfg 0x2001 ≠ some 0x2000 := by
  unfold ramAt; decide

theorem witness_MirrorLaw :
    Memory.wf sample.store ∧ sample.cfg.chunkMap = defaultChunkMap ∧ sample.cfg.storeSize = 0x4000 ∧
      0x2000 ≤ (0x2000 : Word).toNat ∧ (0x3FFF : Word).toNat < 0x4000 := by
  decide

theorem witness_LoadResult :
    memRead sample sample.hl = .ok 0x57 ∧ memRead sample 0x5FFF = .ok 0 ∧
      memRead sample (sample.pair .bc) = .ok 0 ∧ memRead sample (sample.pair .de) = .ok 0 ∧
      memRead sample 0x5FFE = .ok 0 ∧ memRead sample (0x5FFE + 1) = .ok 0 := by
  decide

theorem witness_StoreResult :
    ramAt sample sample.hl 0x2100 ∧ ramAt sample 0x5FFF 0x3FFF ∧
      ramAt sample (sample.pair .bc) 0x2200 ∧ ramAt sample (sample.pair .de) 0x2300 ∧
      ramAt sample 0x3FFF 0x3FFF ∧ ramAt sample (0x3FFF + 1) 0x2000 := by
  unfold ramAt; decide

/-- Each operation in its register, memory and immediate form. -/
theorem witness_aluForm (op : AluOp) :
    aluForm op sample (sample.reg .b) (.aluReg op .b) ∧ aluForm op sample 0x57 (.aluM op) ∧
      aluForm op sample 0xFF (.aluImm op 0xFF) :=
  ⟨.inl ⟨.b, rfl, rfl⟩, .inr (.inl ⟨rfl, by decide⟩), .inr (.inr rfl)⟩

theorem witness_AdditionResult :
    aluForm .add sample 0x57 (.aluM .add) ∧ 0 = 0 ∨
      aluForm .adc sample 0x57 (.aluM .adc) ∧ 0 = sample.flags.cy.toNat :=
  .inl ⟨(witness_aluForm .add).2.1, rfl⟩

theorem witness_AdditionResult_with_carry :
    aluForm .add sample 0xFF (.aluImm .adc 0xFF) ∧ 1 = 0 ∨
      aluForm .adc sample 0xFF (.aluImm .adc 0xFF) ∧ 1 = sample.flags.cy.toNat :=
  .inr ⟨(witness_aluForm .adc).2.2, by decide⟩

theorem witness_SubtractionResult :
    (aluForm .sub sample 0x57 (.aluM .sub) ∧
      (AluOp.sub = .sub ∧ 0 = 0 ∨ AluOp.sub = .sbb ∧ 0 = sample.flags.cy.toNat ∨
        AluOp.sub = .cmp ∧ 0 = 0)) ∧
    (aluForm .sbb sample 0xFF (.aluImm .sbb 0xFF) ∧
      (AluOp.sbb = .sub ∧ 1 = 0 ∨ AluOp.sbb = .sbb ∧ 1 = sample.flags.cy.toNat ∨
        AluOp.sbb = .cmp ∧ 1 = 0)) ∧
    aluForm .cmp sample 0x22 (.aluReg .cmp .b) ∧
      (AluOp.cmp = .sub ∧ 0 = 0 ∨ AluOp.cmp = .sbb ∧ 0 = sample.flags.cy.toNat ∨
        AluOp.cmp = .cmp ∧ 0 = 0) :=
  ⟨⟨(witness_aluForm .sub).2.1, by decide⟩, ⟨(witness_aluForm .sbb).2.2, by decide⟩,
    (witness_aluForm .cmp).1, by decide⟩

theorem witness_CompareResult : aluForm .cmp sample 0xFF (.aluImm .cmp 0xFF) :=
  (witness_aluForm .cmp).2.2

theorem witness_LogicalResult :
    aluForm .ana sample 0x57 (.aluM .ana) ∧ aluForm .xra sample 0x57 (.aluM .xra) ∧
      aluForm .ora sample 0x57 (.aluM .ora) :=
  ⟨(witness_aluForm .ana).2.1, (witness_aluForm .xra).2.1, (witness_aluForm .ora).2.1⟩

/-- HL in RAM, and HL at the last byte of ROM under each policy. -/
theorem witness_IncrementMemoryResult :
    (memRead sample sample.hl = .ok 0x57 ∧ ramAt sample sample.hl 0x2100) ∧
      (∀ cfg ∈ [sample.cfg, lenient.cfg],
        let s := { sample with cfg := cfg, h := 0x1F, l := 0xFF }
        memRead s s.hl = .ok 0 ∧ resolveWrite s.cfg s.hl = .rejected) ∧
      sample.cfg.romWritePolicy = .fault ∧ lenient.cfg.romWritePolicy = .ignore := by
  unfold ramAt; decide

/-- 99 + 99, both digits at their largest. -/
theorem witness_DecimalAddition :
    isDecimal sample.a ∧ isDecimal 0x99 ∧
      ∃ s1 s2, exec (.adi 0x99) sample = .next s1 ∧ exec .daa s1 = .next s2 :=
  ⟨by unfold isDecimal; decide, by unfold isDecimal; decide, _, _, rfl, rfl⟩

/-- A push into RAM is one of those `pushLeaves` speaks of. -/
theorem pushLeaves_ram {s : State} {v : Word} {hiOff loOff : Nat} (hHi : ramAt s (s.sp - 1) hiOff)
    (hLo : ramAt s (s.sp - 2) loOff) :
    pushLeaves s v { s with store := pushedStore s hiOff loOff v, sp := s.sp - 2 } :=
  ⟨_, _, .inl ⟨hiOff, hHi, rfl⟩, .inl ⟨loOff, hLo, rfl⟩, rfl⟩

/-- A push into RAM, and one whose low byte is ignored in ROM. -/
theorem witness_CallResult :
    condHolds sample.flags .z = false ∧ condHolds sample.flags .c = true ∧
      pushLeaves sample sample.pc { sample with
        store := pushedStore sample 0x23FF 0x23FE sample.pc, sp := 0x23FE } ∧
      (let s : State := { lenient with sp := 0x2001 };
        pushLeaves s s.pc { s with store := Memory.write s.store 0x2000 0x20, sp := 0x1FFF }) :=
  ⟨by decide, by decide, pushLeaves_ram ⟨rfl, by decide⟩ ⟨rfl, by decide⟩,
    _, _, .inl ⟨0x2000, ⟨rfl, by decide⟩, rfl⟩, .inr ⟨rfl, rfl, rfl⟩, rfl⟩

theorem witness_ReturnResult :
    condHolds sample.flags .z = false ∧ condHolds sample.flags .c = true ∧
      popReady { sample with sp := 0x20FF } 0x00 0x57 ∧ popReady { sample with sp := 0x5FFE } 0 0 := by
  unfold popReady; decide

theorem witness_StackTransferResult :
    (∃ s1, pushLeaves sample (sample.b ++ sample.c) s1) ∧
      (∃ s1, pushLeaves { lenient with sp := 0x2001 } 0xAA97 s1) ∧
      popReady { sample with sp := 0x20FF } 0x00 0x57 :=
  ⟨⟨_, pushLeaves_ram (hiOff := 0x23FF) (loOff := 0x23FE) ⟨rfl, by decide⟩ ⟨rfl, by decide⟩⟩,
    ⟨_, _, _, .inl ⟨0x2000, ⟨rfl, by decide⟩, rfl⟩, .inr ⟨rfl, rfl, rfl⟩, rfl⟩, rfl, rfl⟩

/-- XTHL in RAM, and with SP in the last byte of ROM, where its first write is ignored. -/
theorem witness_ExchangeStackResult :
    (let s : State := { sample with sp := 0x20FF };
      popReady s 0x00 0x57 ∧ ∃ s1 s2, writeLeaves s s.sp s.l s1 ∧ writeLeaves s1 (s.sp + 1) s.h s2) ∧
    (let s : State := { lenient with sp := 0x1FFF };
      popReady s 0 0 ∧ writeLeaves s s.sp s.l s ∧ ∃ s2, writeLeaves s (s.sp + 1) s.h s2) :=
  ⟨⟨⟨rfl, rfl⟩, _, _, .inl ⟨0x20FF, ⟨rfl, by decide⟩, rfl⟩, .inl ⟨0x2100, ⟨rfl, by decide⟩, rfl⟩⟩,
    ⟨rfl, rfl⟩, .inr ⟨rfl, rfl, rfl⟩, _, .inl ⟨0x2000, ⟨rfl, by decide⟩, rfl⟩⟩

/-- Forms that push and forms that pop, in concrete states. -/
theorem witness_pushForm_popForm :
    pushForm sample (sample.pair .bc) .pushB ∧ pushForm sample (sample.a ++ packFlags sample.flags) .pushPSW ∧
      pushForm sample sample.pc (.call 0xFFFF) ∧ pushForm sample sample.pc (.callIf .c 0) ∧
      pushForm sample sample.pc (.rst 7) ∧ pushForm undocRuns undocRuns.pc (.undocDD 0) ∧
      popForm sample .popPSW ∧ popForm sample (.returnIf .c) ∧ popForm undocRuns .undocD9 := by
  refine ⟨.inl ⟨rfl, rfl⟩, .inr (.inr (.inr (.inl ⟨rfl, rfl⟩))), ?_, ?_, ?_, ?_, ?_, ?_, ?_⟩
  · exact .inr (.inr (.inr (.inr ⟨rfl, .inl ⟨_, rfl⟩⟩)))
  · exact .inr (.inr (.inr (.inr ⟨rfl, .inr (.inr (.inl ⟨_, _, rfl, rfl⟩))⟩)))
  · exact .inr (.inr (.inr (.inr ⟨rfl, .inr (.inl ⟨_, rfl⟩)⟩)))
  · exact .inr (.inr (.inr (.inr ⟨rfl, .inr (.inr (.inr ⟨rfl, 0, .head _⟩))⟩)))
  · exact .inl (by simp)
  · exact .inr (.inl ⟨_, rfl, rfl⟩)
  · exact .inr (.inr ⟨rfl, rfl⟩)

/-- The three kinds of write fault: unmapped, ROM, past the store. -/
theorem witness_writeFault :
    writeFault sample 0x6000 (.unmappedWrite 0x6000) ∧ writeFault sample 0x1FFF (.romWrite 0x1FFF) ∧
      writeFault smallStore 0x5FFF (.physicalOffsetOutOfRange 0x5FFF) :=
  ⟨.inl ⟨by decide, rfl⟩, .inr (.inl ⟨by decide, by decide, rfl⟩),
    .inr (.inr ⟨0x3FFF, by decide, by decide, rfl⟩)⟩

/-- The two kinds of read fault: unmapped, past the store. -/
theorem witness_readFault :
    readFault sample 0xFFFF (.unmappedRead 0xFFFF) ∧
      readFault smallStore 0x3FFF (.physicalOffsetOutOfRange 0x3FFF) :=
  ⟨.inl ⟨by decide, rfl⟩, .inr ⟨0x3FFF, by decide, by decide, rfl⟩⟩

/-- The first push write in ROM; the first in the lowest byte of RAM, or ignored, and the second faulting;
the first byte unreadable; the second unreadable; XTHL's writes in ROM, the second past its end. -/
theorem witness_StackFaults :
    writeFault { sample with sp := 0x2000 } (0x2000 - 1) (.romWrite 0x1FFF) ∧
    (let s : State := { sample with sp := 0x2001 };
      writeLeaves s (s.sp - 1) 0x20 { s with store := Memory.write s.store 0x2000 0x20 } ∧
        writeFault s (s.sp - 2) (.romWrite 0x1FFF)) ∧
    (let s : State := { lenient with sp := 0x0001 };
      writeLeaves s (s.sp - 1) 0x20 s ∧ writeFault s (s.sp - 2) (.unmappedWrite 0xFFFF)) ∧
    readFault { sample with sp := 0x6000 } 0x6000 (.unmappedRead 0x6000) ∧
    (let s : State := { sample with sp := 0x5FFF };
      memRead s s.sp = .ok 0 ∧ readFault s (s.sp + 1) (.unmappedRead 0x6000)) ∧
    (let s : State := { sample with sp := 0x1FFE };
      popReady s 0 0 ∧ writeFault s s.sp (.romWrite 0x1FFE)) ∧
    (let s : State := { upperRom with sp := 0x23FF };
      popReady s 0 0 ∧ writeLeaves s s.sp s.l { s with store := Memory.write s.store 0x23FF s.l } ∧
        writeFault s (s.sp + 1) (.romWrite 0x2400)) := by
  refine ⟨.inr (.inl ⟨by decide, by decide, rfl⟩), ⟨.inl ⟨0x2000, ⟨by decide, by decide⟩, rfl⟩, ?_⟩,
    ⟨.inr ⟨by decide, by decide, rfl⟩, ?_⟩, .inl ⟨by decide, rfl⟩, ⟨by decide, ?_⟩,
    ⟨⟨by decide, by decide⟩, ?_⟩, ⟨by decide, by decide⟩, .inl ⟨0x23FF, ⟨by decide, by decide⟩, rfl⟩, ?_⟩
  · exact .inr (.inl ⟨by decide, by decide, rfl⟩)
  · exact .inl ⟨by decide, rfl⟩
  · exact .inl ⟨by decide, rfl⟩
  · exact .inr (.inl ⟨by decide, by decide, rfl⟩)
  · exact .inr (.inl ⟨by decide, by decide, rfl⟩)

/-- Every form that loads and every form that stores. -/
theorem witness_loadForm_storeForm (r : Reg8) (op : AluOp) :
    loadForm sample 0x2100 (.movFromM r) ∧ loadForm sample 0x2100 (.aluM op) ∧
      loadForm sample 0x2100 .inrM ∧ loadForm sample 0x2100 .dcrM ∧
      loadForm sample 0xFFFF (.lda 0xFFFF) ∧ loadForm sample 0x2200 .ldaxB ∧
      loadForm sample 0x2300 .ldaxD ∧ loadForm sample 0xFFFF (.lhld 0xFFFF) ∧
      storeForm sample 0x2100 (sample.reg r) (.movToM r) ∧ storeForm sample 0x2100 0xFF (.mviM 0xFF) ∧
      storeForm sample 0x5FFF 0x99 (.sta 0x5FFF) ∧ storeForm sample 0x2200 0x99 .staxB ∧
      storeForm sample 0x2300 0x99 .staxD :=
  ⟨.inl ⟨rfl, .inl ⟨r, rfl⟩⟩, .inl ⟨rfl, .inr (.inl ⟨op, rfl⟩)⟩, .inl ⟨rfl, .inr (.inr (.inl rfl))⟩,
    .inl ⟨rfl, .inr (.inr (.inr rfl))⟩, .inr (.inl rfl), .inr (.inr (.inl ⟨rfl, rfl⟩)),
    .inr (.inr (.inr (.inl ⟨rfl, rfl⟩))), .inr (.inr (.inr (.inr rfl))),
    .inl ⟨rfl, .inl ⟨r, rfl, rfl⟩⟩, .inl ⟨rfl, .inr rfl⟩, .inr ⟨rfl, .inl rfl⟩,
    .inr ⟨rfl, .inr (.inl ⟨rfl, rfl⟩)⟩, .inr ⟨rfl, .inr (.inr ⟨rfl, rfl⟩)⟩⟩

/-- A load and a store that fault with HL unmapped and a store of DE in ROM; LHLD and SHLD at the last byte
of RAM; STA and SHLD at the top of ROM with writes to ROM ignored. -/
theorem witness_LoadStoreFaults :
    (let s : State := { sample with h := 0x60 };
      loadForm s 0x6000 .inrM ∧ readFault s 0x6000 (.unmappedRead 0x6000) ∧
        storeForm s 0x6000 7 (.mviM 7) ∧ writeFault s 0x6000 (.unmappedWrite 0x6000)) ∧
    (let s : State := { sample with d := 0x1F };
      storeForm s 0x1F00 0x99 .staxD ∧ writeFault s 0x1F00 (.romWrite 0x1F00)) ∧
    (memRead sample 0x5FFF = .ok 0 ∧ readFault sample (0x5FFF + 1) (.unmappedRead 0x6000) ∧
      writeLeaves sample 0x5FFF sample.l
        { sample with store := Memory.write sample.store 0x3FFF sample.l } ∧
      writeFault sample (0x5FFF + 1) (.unmappedWrite 0x6000)) ∧
    writeFault sample 0x1FFF (.romWrite 0x1FFF) ∧
    storeForm lenient 0x1FFF 0x99 (.sta 0x1FFF) ∧ writeLeaves lenient 0x1FFF 0x99 lenient ∧
    writeLeaves lenient (0x1FFF + 1) lenient.h
      { lenient with store := Memory.write lenient.store 0x2000 lenient.h } := by
  refine ⟨⟨.inl ⟨rfl, .inr (.inr (.inl rfl))⟩, .inl ⟨by decide, rfl⟩, .inl ⟨rfl, .inr rfl⟩,
      .inl ⟨by decide, rfl⟩⟩, ⟨.inr ⟨rfl, .inr (.inr ⟨rfl, rfl⟩)⟩, ?_⟩,
    ⟨by decide, .inl ⟨by decide, rfl⟩, .inl ⟨0x3FFF, ⟨by decide, by decide⟩, rfl⟩,
      .inl ⟨by decide, rfl⟩⟩, ?_, .inr ⟨rfl, .inl rfl⟩, .inr ⟨by decide, by decide, rfl⟩,
    .inl ⟨0x2000, ⟨by decide, by decide⟩, rfl⟩⟩
  · exact .inr (.inl ⟨by decide, by decide, rfl⟩)
  · exact .inr (.inl ⟨by decide, by decide, rfl⟩)

theorem witness_StackRoundTrips :
    Memory.wf sample.store ∧ pushReady sample 0x23FF 0x23FE ∧ 0x23FF ≠ 0x23FE := by
  unfold pushReady ramAt; decide

theorem witness_InResult :
    3 = sample.cfg.resultPort ∧ 1 ≠ sample.cfg.resultPort ∧ sample.cfg.inputHandler = .oracle ∧
      (let s : State := { sample with cfg := { defaultConfig with inputHandler := .absent } };
        1 ≠ s.cfg.resultPort ∧ s.cfg.inputHandler = .absent) := by
  decide

theorem witness_OutResult :
    4 = sample.cfg.fillPort ∧ (2 ≠ sample.cfg.fillPort ∧ 2 = sample.cfg.offsetPort) ∧
      6 ≠ sample.cfg.fillPort ∧ 6 ≠ sample.cfg.offsetPort := by
  decide

theorem witness_UndocumentedOpcodes :
    sample.cfg.undocPolicy = .fault ∧ undocRuns.cfg.undocPolicy = .aliased ∧
      popReady undocRuns 0 0 ∧ ∃ s1, pushLeaves undocRuns undocRuns.pc s1 :=
  ⟨rfl, rfl, ⟨rfl, rfl⟩, _,
    pushLeaves_ram (hiOff := 0x23FF) (loOff := 0x23FE) ⟨rfl, by decide⟩ ⟨rfl, by decide⟩⟩

/-- An instruction of three bytes. -/
theorem witness_StepRunsDecoded :
    let bytes : List Byte := [0x01, 0x34, 0x12]
    let s := code bytes zero
    s.fault = none ∧ s.halt = false ∧ s.running = true ∧ s.cyc < frameCycles s.cfg ∧
      decode bytes = .ok (.lxiB 0x1234, []) ∧
      ∀ k (hk : k < bytes.length), memRead s (s.pc + BitVec.ofNat 16 k) = .ok bytes[k] := by
  decide

/-- One cycle below the mid-frame threshold, and one below the end of the frame. -/
theorem witness_StepBetweenOffers :
    let s := { zero with cyc := 14203 }
    let t := { zero with cyc := 33328, midFired := true }
    s.fault = none ∧ s.halt = false ∧ s.running = true ∧ s.eiShadow = false ∧ fetch s = .ok .nop ∧
      (∃ s2, exec .nop { s with pc := s.pc + BitVec.ofNat 16 1 } = .next s2) ∧
      s.cyc + instrCycles .nop s < frameCycles s.cfg ∧
      (s.cyc + instrCycles .nop s) / scanlineCycles s.cfg < s.cfg.midScanline ∧
      fetch t = .ok .nop ∧ t.cyc + instrCycles .nop t < frameCycles t.cfg ∧ t.midFired = true :=
  ⟨by decide, by decide, by decide, by decide, by decide, ⟨_, rfl⟩, by decide, by decide, by decide,
    by decide, by decide⟩

theorem witness_FetchFaults :
    (let s : State := { zero with pc := 0x6000 };
      s.fault = none ∧ s.halt = false ∧ memRead s s.pc = .error (.unmappedRead 0x6000)) ∧
    (let s : State := put 0x5FFF [0x06] { zero with pc := 0x5FFF };
      memRead s s.pc = .ok 0x06 ∧ 2 ≤ (rowOf 0x06).size ∧
        memRead s (s.pc + 1) = .error (.unmappedRead 0x6000)) ∧
    (let s : State := put 0x5FFE [0xC3] { zero with pc := 0x5FFE };
      memRead s s.pc = .ok 0xC3 ∧ (rowOf 0xC3).size = 3 ∧ memRead s (s.pc + 1) = .ok 0 ∧
        memRead s (s.pc + 2) = .error (.unmappedRead 0x6000)) := by
  decide

theorem witness_OfficialCosts : sample.cfg.cycleTable = .official := by decide

theorem witness_HaltedForEver :
    let s := { sample with halt := true }
    s.fault = none ∧ s.halt = true ∧ s.inte = false := by
  decide

/-- A number that is not one; lost; a faulted machine; held, with nothing and with something held before; accepted. -/
theorem witness_InterruptOffer :
    8 ≤ 8 ∧ (7 < 8 ∧ sample.inte = false) ∧
      ({ sample with fault := some (.unmappedRead 0x6000) } : State).fault ≠ none ∧
      (shadowed.fault = none ∧ shadowed.inte = true ∧ shadowed.eiShadow = true) ∧
      (let s : State := { sample with inte := true };
        s.fault = none ∧ s.inte = true ∧ s.eiShadow = false) := by
  decide

/-- A push into RAM; one whose low byte is ignored in ROM; the first write in ROM; the first in RAM and
the second in ROM; and the first ignored in ROM and the second unmapped. -/
theorem witness_InterruptAcceptance :
    (∃ s1, pushLeaves sample sample.pc s1) ∧
    (let s : State := { lenient with sp := 0x2001 }; ∃ s1, pushLeaves s s.pc s1) ∧
    writeFault { sample with sp := 0x2000 } (0x2000 - 1) (.romWrite 0x1FFF) ∧
    (let s : State := { sample with sp := 0x2001 };
      (∃ s1, writeLeaves s (s.sp - 1) (highByte s.pc) s1) ∧
        writeFault s (s.sp - 2) (.romWrite 0x1FFF)) ∧
    (let s : State := { lenient with sp := 0x0001 };
      writeLeaves s (s.sp - 1) (highByte s.pc) s ∧
        writeFault s (s.sp - 2) (.unmappedWrite 0xFFFF)) :=
  ⟨⟨_, pushLeaves_ram (hiOff := 0x23FF) (loOff := 0x23FE) ⟨rfl, by decide⟩ ⟨rfl, by decide⟩⟩,
    ⟨_, _, _, .inl ⟨0x2000, ⟨rfl, by decide⟩, rfl⟩, .inr ⟨rfl, rfl, rfl⟩, rfl⟩,
    .inr (.inl ⟨rfl, rfl, rfl⟩),
    ⟨⟨_, .inl ⟨0x2000, ⟨rfl, by decide⟩, rfl⟩⟩, .inr (.inl ⟨rfl, rfl, rfl⟩)⟩,
    .inr ⟨rfl, rfl, rfl⟩, .inl ⟨rfl, rfl⟩⟩

/-- A NOP under the shadow, then a DI. -/
theorem witness_ShadowDelivery :
    let s := shadowed
    let t := put 0x2003 [0xF3] shadowed
    let s1 := fun s : State => { s with pc := s.pc + BitVec.ofNat 16 1, eiShadow := false, pending := none }
    s.fault = none ∧ s.halt = false ∧ s.eiShadow = true ∧ s.pending = some 7 ∧
      fetch s = .ok .nop ∧ exec .nop (s1 s) = .next (s1 s) ∧ (s1 s).inte = true ∧
      (∃ s3, pushLeaves (s1 s) (s1 s).pc s3) ∧ fetch t = .ok .di ∧ t.pending = some 7 ∧
      exec .di (s1 t) = .next { s1 t with inte := false } :=
  ⟨by decide, by decide, by decide, by decide, by decide, rfl, by decide,
    ⟨_, pushLeaves_ram (hiOff := 0x23FF) (loOff := 0x23FE) ⟨rfl, by decide⟩ ⟨rfl, by decide⟩⟩,
    by decide, by decide, rfl⟩

/-- At a boundary short of the threshold, at it, and at the end of the frame. -/
theorem witness_BoundaryWithInterruptsOff :
    sample.fault = none ∧ sample.inte = false ∧ ¬ frameCycles sample.cfg ≤ sample.cyc + 33332 ∧
      frameCycles sample.cfg ≤ sample.cyc + 33333 := by
  decide

/-- The threshold; vector 1 with its cycles just inside the frame; both offers at one boundary, the budget
used up by the acceptance's cycles; the end of the frame; and both offers in the EI shadow. -/
theorem witness_BoundaryTakesInterrupt :
    let s := { sample with inte := true }
    let t := { s with midFired := true }
    let u := { shadowed with pending := none }
    s.fault = none ∧ s.inte = true ∧ s.eiShadow = false ∧
      (∃ s1, pushLeaves s s.pc s1) ∧ (∃ t1, pushLeaves t t.pc t1) ∧
      s.midFired = false ∧ s.cfg.midScanline ≤ (s.cyc + 14208) / scanlineCycles s.cfg ∧
      s.cyc + 33321 + 11 < frameCycles s.cfg ∧ frameCycles s.cfg ≤ s.cyc + 33322 + 11 ∧
      frameCycles t.cfg ≤ t.cyc + 33333 ∧
      u.fault = none ∧ u.inte = true ∧ u.eiShadow = true ∧ u.pending = none ∧ u.midFired = false ∧
      u.cfg.midScanline ≤ (u.cyc + 33333) / scanlineCycles u.cfg ∧
      frameCycles u.cfg ≤ u.cyc + 33333 :=
  ⟨by decide, by decide, by decide,
    ⟨_, pushLeaves_ram (hiOff := 0x23FF) (loOff := 0x23FE) ⟨rfl, by decide⟩ ⟨rfl, by decide⟩⟩,
    ⟨_, pushLeaves_ram (hiOff := 0x23FF) (loOff := 0x23FE) ⟨rfl, by decide⟩ ⟨rfl, by decide⟩⟩,
    by decide, by decide, by decide, by decide, by decide, by decide, by decide, by decide,
    by decide, by decide, by decide, by decide⟩

theorem witness_MidFrameOfferedByFrameEnd :
    let s := { sample with cyc := 33333 }
    s.cfg.schedulerWellFormed = true ∧ frameCycles s.cfg ≤ s.cyc := by
  decide

theorem witness_CyclesStayInFrame :
    let s := { sample with cyc := 33332 }
    s.cfg = defaultConfig ∧ s.cyc < 33333 ∧ ∃ s', step s = .next s' :=
  ⟨by decide, by decide,
    (after_exists (p := fun _ => true) (by decide)).imp fun _ h => h.1⟩

/-- A machine whose frames have ten cycles. -/
def shortFrames : State :=
  { zero with cfg := { defaultConfig with clockHz := 600, displayHeight := 2, midScanline := 1 } }

theorem witness_RunFrameIsSteps :
    (∀ op taken, 0 < tableCycles shortFrames.cfg.cycleTable op taken) ∧
      0 < shortFrames.cfg.haltIdleCycles ∧ ∃ s', hostRunFrame shortFrames = .next s' :=
  ⟨by decide +kernel, by decide,
    (after_exists (p := fun s => decide (s.frame = 1)) (by decide)).imp fun _ h => h.1⟩

end Sys2Proof.Tests
end

section
/-! What a step of the machine keeps (spec 10_state.md, 60_exceptions.md R340 to R348): the parameters,
RUNNING and DIP, and CYC inside its frame. -/

namespace Sys2Proof.Machine

/-! ## What the updates keep, a step keeps -/

section Keeps

variable {P : State → Prop} {s s' : State}

/-- What every update of a step keeps, a completed step keeps. -/
theorem step_keeps (hU : ∀ s1 s2, StepUpdate s1 s2 → P s1 → P s2) (hs : P s)
    (h : step s = .next s') : P s' := by
  have hv := step_via s
  rw [h] at hv
  exact Chain.keeps hU hv hs

/-- What every update of a step keeps holds where a step's fault was raised. -/
theorem step_keeps_fault (hU : ∀ s1 s2, StepUpdate s1 s2 → P s1 → P s2) (hs : P s) {f : Fault}
    (h : step s = .fault f) : ∃ s1 r, P s1 ∧ f.final = s1.setFault (some r) := by
  have hv := step_via s
  rw [h] at hv
  obtain ⟨s1, r, hc, rfl⟩ := hv
  exact ⟨s1, r, hc.keeps hU hs, r.toFault_final _⟩

end Keeps

/-! ## The parameters, RUNNING and DIP -/

/-- `s'` has the parameters, the RUNNING and the DIP byte of `s`. -/
def SameParameters (s s' : State) : Prop :=
  s'.cfg = s.cfg ∧ s'.running = s.running ∧ s'.dip = s.dip

theorem SameParameters.trans {s s1 s2 : State} (h : SameParameters s s1)
    (h' : SameParameters s1 s2) : SameParameters s s2 := by
  obtain ⟨hcfg, hrun, hdip⟩ := h
  obtain ⟨hcfg', hrun', hdip'⟩ := h'
  exact ⟨hcfg'.trans hcfg, hrun'.trans hrun, hdip'.trans hdip⟩

theorem OpUpdate.sameParameters {s s' : State} (h : OpUpdate s s') : SameParameters s s' := by
  cases h with
  | reg r v => cases r <;> exact ⟨rfl, rfl, rfl⟩
  | _ => exact ⟨rfl, rfl, rfl⟩

theorem StepUpdate.sameParameters {s s' : State} (h : StepUpdate s s') : SameParameters s s' := by
  cases h with
  | op hu => exact hu.sameParameters
  | _ => exact ⟨rfl, rfl, rfl⟩

/-- Settles O9: no update of a step writes a parameter, RUNNING or DIP, and a fault sets only FAULT. -/
theorem stepKeepsParameters : Obligations.StepKeepsParameters := by
  intro s
  have hU (s1 s2 : State) (hu : StepUpdate s1 s2) (h : SameParameters s s1) :
      SameParameters s s2 := h.trans hu.sameParameters
  have hs : SameParameters s s := ⟨rfl, rfl, rfl⟩
  refine ⟨fun s' h => step_keeps hU hs h, fun f h => ?_⟩
  obtain ⟨s1, r, h1, hf⟩ := step_keeps_fault hU hs h
  rw [hf]
  exact h1

/-! ## What a completed engine step, and the boundary after it, can have done -/

section Inversion

variable {s s' : State} {y : State × Nat} {n : Nat}

/-- The bookkeeping after the operation: nothing, or the acceptance of the held interrupt. -/
theorem endOperation_next {held : Option (BitVec 3)} (h : endOperation held n s = .next y) :
    y = (s, n) ∨ ∃ k s1 extra, held = some k ∧ s.inte = true ∧ accept k s = .next (s1, extra) ∧
      y = (s1, n + extra) := by
  unfold endOperation at h
  split at h
  · injection h with h; exact .inl h.symm
  · next k =>
    split at h
    · next hi =>
      split at h
      · next s1 extra ha => injection h with h; exact .inr ⟨k, s1, extra, rfl, hi, ha, h.symm⟩
      · cases h
      · cases h
    · injection h with h; exact .inl h.symm

/-- The step of a fetched instruction that completes: its operation, then the bookkeeping after it. -/
theorem runInstr_next {i : Instr} (h : runInstr i s = .next y) :
    ∃ s2, exec i (beginOperation i s) = .next s2 ∧
      endOperation (heldInterrupt s) (instrCycles i (beginOperation i s)) s2 = .next y := by
  simp only [runInstr] at h
  split at h
  · next s2 he => exact ⟨s2, he, h⟩
  · cases h
  · cases h

/-- An engine step that completes: a halted machine's, or the step of the instruction at PC. -/
theorem engineStep_next (h : engineStep s = .next y) :
    s.fault = none ∧ ((s.halt = true ∧ y = (s, s.cfg.haltIdleCycles)) ∨
      (s.halt = false ∧ ∃ i, fetch s = .ok i ∧ runInstr i s = .next y)) := by
  unfold engineStep at h
  split at h
  · exact absurd h (raise_ne_next _ _ _)
  · next hf =>
    refine ⟨hf, ?_⟩
    split at h
    · next hh => injection h with h; exact .inl ⟨hh, h.symm⟩
    · next hh =>
      split at h
      · exact absurd h (raise_ne_next _ _ _)
      · next i hi => exact .inr ⟨by simpa using hh, i, hi, h⟩

/-- A mid-frame offer that completes: made and charged, or not due. -/
theorem midFrameOffer_next {k : State → Out} (h : midFrameOffer s k = .next s') :
    (∃ s1 n, interrupt 1 (s.setMidFired true) = .next (s1, n) ∧
      k (s1.setCyc (s1.cyc + n)) = .next s') ∨ k s = .next s' := by
  unfold midFrameOffer at h
  split at h
  · exact .inl (charge_next h)
  · exact .inr h

/-- An end of frame that completes: the next frame starts after the offer, or the budget lasts. -/
theorem endOfFrame_next (h : endOfFrame s = .next s') :
    (frameCycles s.cfg ≤ s.cyc ∧ ∃ s1 n, interrupt 2 s = .next (s1, n) ∧
      s' = startFrame (s1.setCyc (s1.cyc + n))) ∨ (s.cyc < frameCycles s.cfg ∧ s' = s) := by
  unfold endOfFrame at h
  split at h
  · next hc =>
    obtain ⟨s1, n, hi, hk⟩ := charge_next h
    injection hk with hk
    exact .inl ⟨hc, s1, n, hi, hk.symm⟩
  · next hc => injection h with h; exact .inr ⟨by omega, h.symm⟩

/-- A machine's step that completes: an engine step and its boundary, or the end of the frame alone. -/
theorem step_next (h : step s = .next s') :
    s.fault = none ∧
      ((s.cyc < frameCycles s.cfg ∧ s.running = true ∧ boundary (engineStep s) = .next s') ∨
        (¬ (s.cyc < frameCycles s.cfg ∧ s.running = true) ∧ endOfFrame s = .next s')) := by
  unfold step frameStep at h
  split at h
  · exact absurd h (raise_ne_next _ _ _)
  · next hf =>
    refine ⟨hf, ?_⟩
    split at h
    · next hc => exact .inl ⟨hc.1, hc.2, h⟩
    · next hc => exact .inr ⟨hc, h⟩

end Inversion

/-! ## Cycles -/

/-- The answer `y` reached from `s` reports at most `b` cycles, and has charged none of them to CYC. -/
def Costs (b : Nat) (s : State) (y : State × Nat) : Prop :=
  y.1.cfg = s.cfg ∧ y.1.cyc = s.cyc ∧ y.2 ≤ b

/-- No update of an operation charges cycles. -/
theorem OpUpdate.cyc_eq {s s' : State} (h : OpUpdate s s') : s'.cyc = s.cyc := by
  cases h with
  | reg r v => exact State.setReg_cyc _ r v
  | _ => rfl

theorem Chain.cfg_cyc {s s' : State} (h : Chain OpUpdate s s') :
    s'.cfg = s.cfg ∧ s'.cyc = s.cyc := by
  induction h with
  | refl => exact ⟨rfl, rfl⟩
  | step _ hu ih =>
    obtain ⟨hcfg, -, -⟩ := hu.sameParameters
    exact ⟨hcfg.trans ih.1, hu.cyc_eq.trans ih.2⟩

section CycleBounds

variable {s s' : State} {y : State × Nat} {b n : Nat}

theorem exec_cfg_cyc {i : Instr} (h : exec i s = .next s') : s'.cfg = s.cfg ∧ s'.cyc = s.cyc := by
  have hv := exec_via i s
  rw [h] at hv
  exact Chain.cfg_cyc hv

theorem accept_costs {k : BitVec 3} (h : accept k s = .next y) : Costs 11 s y := by
  have hv := accept_via k s
  rw [h] at hv
  obtain ⟨hcfg, hcyc⟩ := Chain.cfg_cyc hv
  obtain ⟨s1, s2, -, -, rfl⟩ := accept_next h
  exact ⟨hcfg, hcyc, Nat.le_refl 11⟩

theorem interrupt_costs (h : interrupt n s = .next y) : Costs 11 s y := by
  obtain ⟨-, rfl | ⟨-, -, rfl⟩ | ⟨-, -, ha⟩⟩ := interrupt_next h
  · exact ⟨rfl, rfl, Nat.zero_le 11⟩
  · exact ⟨rfl, rfl, Nat.zero_le 11⟩
  · exact accept_costs ha

theorem endOperation_costs {held : Option (BitVec 3)} (h : endOperation held n s = .next y) :
    Costs (n + 11) s y := by
  obtain rfl | ⟨k, s1, extra, -, -, ha, rfl⟩ := endOperation_next h
  · exact ⟨rfl, rfl, Nat.le_add_right n 11⟩
  · obtain ⟨hcfg, hcyc, hle⟩ := accept_costs ha
    exact ⟨hcfg, hcyc, Nat.add_le_add_left hle n⟩

theorem runInstr_costs (hTable : ∀ op taken, tableCycles s.cfg.cycleTable op taken ≤ b) {i : Instr}
    (h : runInstr i s = .next y) : Costs (b + 11) s y := by
  obtain ⟨s2, he, hend⟩ := runInstr_next h
  obtain ⟨hcfg, hcyc⟩ := exec_cfg_cyc he
  obtain ⟨hcfg', hcyc', hle⟩ := endOperation_costs hend
  have hcost : instrCycles i (beginOperation i s) ≤ b := hTable _ _
  exact ⟨hcfg'.trans hcfg, hcyc'.trans hcyc, by omega⟩

/-- An engine step reports at most the dearest instruction and one acceptance. -/
theorem engineStep_costs (hTable : ∀ op taken, tableCycles s.cfg.cycleTable op taken ≤ b)
    (hIdle : s.cfg.haltIdleCycles ≤ b) (h : engineStep s = .next y) : Costs (b + 11) s y := by
  obtain ⟨-, ⟨-, rfl⟩ | ⟨-, i, -, hr⟩⟩ := engineStep_next h
  · exact ⟨rfl, rfl, by simp only; omega⟩
  · exact runInstr_costs hTable hr

theorem midFrameOffer_costs {k : State → Out} (h : midFrameOffer s k = .next s') :
    ∃ s1, s1.cfg = s.cfg ∧ s1.cyc ≤ s.cyc + 11 ∧ k s1 = .next s' := by
  obtain ⟨s1, n, hi, hk⟩ | hk := midFrameOffer_next h
  · obtain ⟨hcfg, hcyc, hle⟩ := interrupt_costs hi
    exact ⟨s1.setCyc (s1.cyc + n), hcfg, Nat.add_le_add (Nat.le_of_eq hcyc) hle, hk⟩
  · exact ⟨s, rfl, Nat.le_add_right _ 11, hk⟩

/-- R345: the end of a frame leaves CYC inside the next one, if CYC is not a whole frame past it. -/
theorem endOfFrame_cyc_lt (hc : s.cyc + 11 < 2 * frameCycles s.cfg) (h : endOfFrame s = .next s') :
    s'.cyc < frameCycles s.cfg := by
  obtain ⟨hge, s1, n, hi, rfl⟩ | ⟨hlt, rfl⟩ := endOfFrame_next h
  · obtain ⟨hcfg, hcyc, hle⟩ := interrupt_costs hi
    have hs' : (startFrame (s1.setCyc (s1.cyc + n))).cyc = s1.cyc + n - frameCycles s1.cfg := rfl
    simp only at hcfg hcyc hle
    rw [hs', hcfg, hcyc]
    omega
  · exact hlt

/-- Where no instruction and no halted step costs more than `b`, and a frame has room for that and for three
acceptances, a completed step leaves CYC inside the frame. -/
theorem step_cyc_lt (hTable : ∀ op taken, tableCycles s.cfg.cycleTable op taken ≤ b)
    (hIdle : s.cfg.haltIdleCycles ≤ b) (hRoom : b + 33 ≤ frameCycles s.cfg)
    (hc : s.cyc < frameCycles s.cfg) (h : step s = .next s') : s'.cyc < frameCycles s.cfg := by
  obtain ⟨-, ⟨-, -, hb⟩ | ⟨-, he⟩⟩ := step_next h
  · obtain ⟨s1, n, hs1, hmid⟩ := charge_next hb
    obtain ⟨hcfg1, hcyc1, hn⟩ := engineStep_costs hTable hIdle hs1
    obtain ⟨s2, hcfg2, hcyc2, hend⟩ := midFrameOffer_costs hmid
    have hcfg : s2.cfg = s.cfg := hcfg2.trans hcfg1
    have hcyc : s2.cyc ≤ s.cyc + (b + 11) + 11 := by
      simp only [State.setCyc_cyc] at hcyc1 hn hcyc2
      omega
    rw [← hcfg]
    rw [← hcfg] at hRoom hc
    exact endOfFrame_cyc_lt (by omega) hend
  · exact endOfFrame_cyc_lt (by omega) he

end CycleBounds

/-! ## The default parameters -/

/-- What holds of every entry and of the default holds of every entry looked up. -/
theorem forall_getD {α : Type} {p : α → Prop} {l : List α} {d : α} (hl : ∀ x ∈ l, p x) (hd : p d)
    (k : Nat) : p (l.getD k d) := by
  by_cases hk : k < l.length
  · rw [List.getD_eq_getElem _ _ hk]
    exact hl _ (List.getElem_mem hk)
  · rwa [List.getD_eq_default _ _ (Nat.le_of_not_lt hk)]

/-- No row of R130's table holds a cost above 18, that of XTHL. -/
theorem officialTaken_le : ∀ row ∈ officialTaken, ∀ cost ∈ row, cost ≤ 18 := by decide

theorem officialCycles_le (op : Byte) (taken : Bool) : officialCycles op taken ≤ 18 := by
  have row_le (k : Nat) : ∀ cost ∈ officialTaken.getD k [], cost ≤ 18 :=
    forall_getD officialTaken_le (by simp) k
  unfold officialCycles
  split
  · decide
  · split
    · decide
    · exact forall_getD (row_le _) (Nat.zero_le 18) _

/-- R340: 2000000 cycles a second, 60 frames a second. -/
theorem frameCycles_default : frameCycles defaultConfig = 33333 := rfl

/-- Settles O59: a step charges at most an 18-cycle instruction and three acceptances, far less than a
frame, so what it carries over fits the next one. -/
theorem cyclesStayInFrame : Obligations.CyclesStayInFrame := by
  intro s s' hcfg hc h
  obtain ⟨hkept, -, -⟩ := (stepKeepsParameters s).1 s' h
  have hframe : frameCycles s.cfg = 33333 := by rw [hcfg, frameCycles_default]
  have hlt : s'.cyc < frameCycles s.cfg :=
    step_cyc_lt (b := 18) (by rw [hcfg]; exact officialCycles_le) (by rw [hcfg]; decide)
      (by omega) (by omega) h
  exact ⟨hkept.trans hcfg, by omega⟩

end Sys2Proof.Machine
end

section
/-! The opcode bytes by their fields (spec 30_encoding.md R112, R118 to R121). -/

namespace Sys2Proof.Machine

/-! ## One pattern per form -/

theorem opcode_movReg (rd rs : Reg8) : (Instr.movReg rd rs).opcode =
    0b01#2 ++ operandCode (.reg rd) ++ operandCode (.reg rs) := by
  cases rd <;> cases rs <;> rfl

theorem opcode_movFromM (rd : Reg8) : (Instr.movFromM rd).opcode =
    0b01#2 ++ operandCode (.reg rd) ++ operandCode .m := by
  cases rd <;> rfl

theorem opcode_movToM (rs : Reg8) : (Instr.movToM rs).opcode =
    0b01#2 ++ operandCode .m ++ operandCode (.reg rs) := by
  cases rs <;> rfl

theorem opcode_mviReg (rd : Reg8) (v : Byte) : (Instr.mviReg rd v).opcode =
    0b00#2 ++ operandCode (.reg rd) ++ 0b110#3 := by
  cases rd <;> rfl

theorem opcode_inr (rd : Reg8) : (Instr.inr rd).opcode =
    0b00#2 ++ operandCode (.reg rd) ++ 0b100#3 := by
  cases rd <;> rfl

theorem opcode_dcr (rd : Reg8) : (Instr.dcr rd).opcode =
    0b00#2 ++ operandCode (.reg rd) ++ 0b101#3 := by
  cases rd <;> rfl

theorem opcode_lxi (rp : RegPair) (w : Word) : (Instr.lxi rp w).opcode =
    0b00#2 ++ pairCode rp ++ 0b0001#4 := by
  cases rp <;> rfl

theorem opcode_inx (rp : RegPair) : (Instr.inx rp).opcode = 0b00#2 ++ pairCode rp ++ 0b0011#4 := by
  cases rp <;> rfl

theorem opcode_dcx (rp : RegPair) : (Instr.dcx rp).opcode = 0b00#2 ++ pairCode rp ++ 0b1011#4 := by
  cases rp <;> rfl

theorem opcode_dad (rp : RegPair) : (Instr.dad rp).opcode = 0b00#2 ++ pairCode rp ++ 0b1001#4 := by
  cases rp <;> rfl

theorem opcode_aluReg (op : AluOp) (rs : Reg8) : (Instr.aluReg op rs).opcode =
    0b10#2 ++ aluCode op ++ operandCode (.reg rs) := by
  cases op <;> cases rs <;> rfl

theorem opcode_aluM (op : AluOp) : (Instr.aluM op).opcode =
    0b10#2 ++ aluCode op ++ operandCode .m := by
  cases op <;> rfl

theorem opcode_aluImm (op : AluOp) (v : Byte) : (Instr.aluImm op v).opcode =
    0b11#2 ++ aluCode op ++ 0b110#3 := by
  cases op <;> rfl

theorem opcode_jumpIf (cc : Cond) (w : Word) : (Instr.jumpIf cc w).opcode =
    0b11#2 ++ condCode cc ++ 0b010#3 := by
  cases cc <;> rfl

theorem opcode_callIf (cc : Cond) (w : Word) : (Instr.callIf cc w).opcode =
    0b11#2 ++ condCode cc ++ 0b100#3 := by
  cases cc <;> rfl

theorem opcode_returnIf (cc : Cond) : (Instr.returnIf cc).opcode =
    0b11#2 ++ condCode cc ++ 0b000#3 := by
  cases cc <;> rfl

theorem opcode_rst (n : Fin 8) : (Instr.rst n).opcode =
    0b11#2 ++ BitVec.ofNat 3 n.val ++ 0b111#3 := by
  match n with
  | 0 | 1 | 2 | 3 | 4 | 5 | 6 | 7 => rfl

/-- Settles O4: the patterns of the forms, and the opcodes that are one byte each. -/
theorem fieldPatterns : Obligations.FieldPatterns := by
  intro rd rs rp cc op n v w
  exact ⟨opcode_movReg rd rs, opcode_movFromM rd, opcode_movToM rs, opcode_mviReg rd v, rfl,
    opcode_inr rd, rfl, opcode_dcr rd, rfl, opcode_lxi rp w, opcode_inx rp, opcode_dcx rp,
    opcode_dad rp, opcode_aluReg op rs, opcode_aluM op, opcode_aluImm op v, opcode_jumpIf cc w,
    opcode_callIf cc w, opcode_returnIf cc, opcode_rst n, rfl, rfl, rfl, rfl, rfl, rfl, rfl, rfl,
    rfl, rfl, rfl, rfl⟩

end Sys2Proof.Machine
end

section
/-! The frame of an operation (spec 10_state.md R36 to R38, R43, R48 to R56): for every part of the state a
frame statement speaks of, which instructions may write it, and that no other instruction does. -/

namespace Sys2Proof.Machine

open Sys2Proof.Claims

/-! ## Parts of the state, and what is kept of them -/

/-- The parts of the state that a frame statement speaks of. -/
inductive Part where
  | reg (r : Reg8)
  | sp
  | pc
  | cy
  | zsp
  | inte
  | halt
  | eiShadow
  | ports
  | inputDraws
  | other

/-- `s'` has a part of the state as `s` has it. -/
def Part.same (s s' : State) : Part → Prop
  | .reg r => s'.reg r = s.reg r
  | .sp => s'.sp = s.sp
  | .pc => s'.pc = s.pc
  | .cy => s'.flags.cy = s.flags.cy
  | .zsp => s'.flags.z = s.flags.z ∧ s'.flags.s = s.flags.s ∧ s'.flags.p = s.flags.p ∧
      s'.flags.ac = s.flags.ac
  | .inte => s'.inte = s.inte
  | .halt => s'.halt = s.halt
  | .eiShadow => s'.eiShadow = s.eiShadow
  | .ports => s'.shift = s.shift ∧ s'.shiftOff = s.shiftOff ∧ s'.outputs = s.outputs
  | .inputDraws => s'.inputDraws = s.inputDraws
  | .other => s'.cfg = s.cfg ∧ s'.pending = s.pending ∧ s'.dip = s.dip ∧ s'.cyc = s.cyc ∧
      s'.midFired = s.midFired ∧ s'.frame = s.frame ∧ s'.running = s.running ∧ s'.fault = s.fault

/-- `s'` differs from `s` in the store and in the parts of `W` alone. -/
def Writes (W : Part → Bool) (s s' : State) : Prop := ∀ p, W p = false → p.same s s'

/-- Where the operation's answer is a next state, it differs from `s` in the store and in the parts of `W`
alone. -/
def Frame (W : Part → Bool) (s : State) (o : Out) : Prop := ∀ s', o = .next s' → Writes W s s'

/-- The parts an instruction may write: the tables of R36 to R38 and R43 by its opcode, the control state by
its own instructions. -/
def mayWrite (i : Instr) : Part → Bool
  | .reg r => mayWriteReg i.opcode r
  | .sp => mayWriteSp i.opcode
  | .pc => mayWritePc i.opcode
  | .cy => mayWriteCy i.opcode
  | .zsp => mayWriteZsp i.opcode
  | .inte => decide (i = .ei ∨ i = .di)
  | .halt => decide (i = .hlt)
  | .eiShadow => decide (i = .ei)
  | .ports => match i with
    | .outPort _ => true
    | _ => false
  | .inputDraws => match i with
    | .inPort _ => true
    | _ => false
  | .other => false

/-! ## One rule per update -/

section Updates

variable {W : Part → Bool} {s0 s : State}

theorem Part.same_refl (p : Part) (s : State) : p.same s s := by
  cases p <;> simp [Part.same]

/-- The update writes one field, and that field belongs to the part. -/
inductive PartUpdate (s : State) : Part → State → Prop where
  | reg (r : Reg8) (v : Byte) : PartUpdate s (.reg r) (s.setReg r v)
  | sp (v : Word) : PartUpdate s .sp (s.setSp v)
  | pc (v : Word) : PartUpdate s .pc (s.setPc v)
  | inte (v : Bool) : PartUpdate s .inte (s.setInte v)
  | halt (v : Bool) : PartUpdate s .halt (s.setHalt v)
  | eiShadow (v : Bool) : PartUpdate s .eiShadow (s.setEiShadow v)
  | shift (v : Word) : PartUpdate s .ports (s.setShift v)
  | shiftOff (v : BitVec 3) : PartUpdate s .ports (s.setShiftOff v)
  | outputs (es : List OutputEvent) : PartUpdate s .ports (s.setOutputs es)
  | inputDraws (n : Nat) : PartUpdate s .inputDraws (s.setInputDraws n)

theorem PartUpdate.keeps {p q : Part} {s1 : State} (hu : PartUpdate s q s1) (hp : p ≠ q)
    (hs : p.same s0 s) : p.same s0 s1 := by
  cases hu with
  | reg r v =>
    cases p with
    | reg r' =>
      have hne : r' ≠ r := fun he => hp (he ▸ rfl)
      simpa only [Part.same, State.setReg_reg, if_neg hne] using hs
    | _ => cases r <;> exact hs
  | _ =>
    cases p <;> try contradiction
    all_goals exact hs

theorem Writes.refl : Writes W s s := fun p _ => p.same_refl s

/-- An update of a part needs that part in `W`. -/
theorem Writes.step {s1 : State} {q : Part} (h : Writes W s0 s) (hu : PartUpdate s q s1)
    (hq : W q = true) : Writes W s0 s1 := by
  intro p hp
  refine hu.keeps ?_ (h p hp)
  rintro rfl
  exact Bool.false_ne_true (hp.symm.trans hq)

/-- The flags are two parts: each is in `W` or kept. -/
theorem Writes.setFlags (h : Writes W s0 s) (f : Flags)
    (hcy : W .cy = true ∨ f.cy = s.flags.cy)
    (hzsp : W .zsp = true ∨
      (f.z = s.flags.z ∧ f.s = s.flags.s ∧ f.p = s.flags.p ∧ f.ac = s.flags.ac)) :
    Writes W s0 (s.setFlags f) := by
  intro p hp
  have hs := h p hp
  cases p with
  | cy =>
    obtain hw | hkept := hcy
    · exact absurd hw (ne_true_of_eq_false hp)
    · exact hkept.trans hs
  | zsp =>
    obtain hw | ⟨hz, hsgn, hpar, hac⟩ := hzsp
    · exact absurd hw (ne_true_of_eq_false hp)
    · obtain ⟨hz', hsgn', hpar', hac'⟩ := hs
      exact ⟨hz.trans hz', hsgn.trans hsgn', hpar.trans hpar', hac.trans hac'⟩
  | _ => exact hs

theorem Writes.setCy (h : Writes W s0 s) (hw : W .cy = true) (cy : Bool) :
    Writes W s0 (s.setFlags { s.flags with cy := cy }) :=
  h.setFlags _ (.inl hw) (.inr ⟨rfl, rfl, rfl, rfl⟩)

/-- The store is no part. -/
theorem Writes.setStore (h : Writes W s0 s) (m : Memory) : Writes W s0 (s.setStore m) := by
  intro p hp
  have hs := h p hp
  cases p <;> exact hs

/-- The register of an operand is in `W`; M is no part. -/
def OperandIn (W : Part → Bool) : Operand8 → Prop
  | .reg r => W (.reg r) = true
  | .m => True

/-- The parts that a pair is made of are in `W`. -/
def PairIn (W : Part → Bool) : RegPair → Prop
  | .bc => W (.reg .b) = true ∧ W (.reg .c) = true
  | .de => W (.reg .d) = true ∧ W (.reg .e) = true
  | .hl => W (.reg .h) = true ∧ W (.reg .l) = true
  | .sp => W .sp = true

theorem Writes.setPair (h : Writes W s0 s) {rp : RegPair} (hw : PairIn W rp) (w : Word) :
    Writes W s0 (s.setPair rp w) := by
  cases rp with
  | bc | de | hl => exact (h.step (.reg _ _) hw.1).step (.reg _ _) hw.2
  | sp => exact h.step (.sp _) hw

end Updates

/-! ## One rule per access -/

section Accesses

variable {W : Part → Bool} {s0 s : State}

theorem frame_next (h : Writes W s0 s) : Frame W s0 (.next s) := by
  intro s' hn
  injection hn with hn
  exact hn ▸ h

theorem frame_raise (r : FaultRecord) : Frame W s0 (raise s r) :=
  fun s' h => absurd h (raise_ne_next s r s')

theorem frame_readThen {addr : Word} {k : Byte → Out} (hk : ∀ v, Frame W s0 (k v)) :
    Frame W s0 (readThen s addr k) := by
  intro s' h
  obtain ⟨v, -, h⟩ := readThen_next h
  exact hk v s' h

/-- A write that completes changes the store at most. -/
theorem memWrite_setStore {addr : Word} {v : Byte} {s1 : State} (h : memWrite s addr v = .ok s1) :
    ∃ m, s1 = s.setStore m := by
  obtain ⟨-, -, hsame⟩ | ⟨off, -, -, hstored⟩ := memWrite_ok h
  · exact ⟨s.store, hsame⟩
  · exact ⟨_, hstored⟩

theorem frame_writeThen {addr : Word} {v : Byte} {k : State → Out} (hs : Writes W s0 s)
    (hk : ∀ s1, Writes W s0 s1 → Frame W s0 (k s1)) : Frame W s0 (writeThen s addr v k) := by
  intro s' h
  obtain ⟨s1, h1, h⟩ := writeThen_next h
  obtain ⟨m, rfl⟩ := memWrite_setStore h1
  exact hk _ (hs.setStore m) s' h

theorem frame_push16 {w : Word} {k : State → Out} (hs : Writes W s0 s) (hsp : W .sp = true)
    (hk : ∀ s1, Writes W s0 s1 → Frame W s0 (k s1)) : Frame W s0 (push16 s w k) :=
  frame_writeThen hs fun _ h1 => frame_writeThen h1 fun _ h2 => hk _ (h2.step (.sp _) hsp)

theorem frame_pop16 {k : Word → State → Out} (hs : Writes W s0 s) (hsp : W .sp = true)
    (hk : ∀ v s1, Writes W s0 s1 → Frame W s0 (k v s1)) : Frame W s0 (pop16 s k) :=
  frame_readThen fun _ => frame_readThen fun _ => hk _ _ (hs.step (.sp _) hsp)

theorem frame_readOperand {o : Operand8} {k : Byte → Out} (hk : ∀ v, Frame W s0 (k v)) :
    Frame W s0 (readOperand s o k) := by
  cases o with
  | reg r => exact hk _
  | m => exact frame_readThen hk

/-- Writing a register operand writes that register, writing M none. -/
theorem frame_writeOperand {o : Operand8} {v : Byte} (hs : Writes W s0 s) (hw : OperandIn W o) :
    Frame W s0 (writeOperand s o v .next) := by
  cases o with
  | reg r => exact frame_next (hs.step (.reg _ _) hw)
  | m => exact frame_writeThen hs fun _ h => frame_next h

theorem frame_if {c : Prop} [Decidable c] {o o' : Out} (h : Frame W s0 o) (h' : Frame W s0 o') :
    Frame W s0 (if c then o else o') := by
  split
  · exact h
  · exact h'

end Accesses

/-! ## One rule per shared operation -/

section Operations

variable {W : Part → Bool}

theorem frame_moveOp (dst src : Operand8) (s : State) (hw : OperandIn W dst) :
    Frame W s (moveOp dst src s) :=
  frame_readOperand fun _ => frame_writeOperand .refl hw

theorem frame_loadAccOp (addr : Word) (s : State) (hw : W (.reg .a) = true) :
    Frame W s (loadAccOp addr s) :=
  frame_readThen fun _ => frame_next (Writes.refl.step (.reg _ _) hw)

theorem frame_storeAccOp (addr : Word) (s : State) : Frame W s (storeAccOp addr s) :=
  frame_writeThen .refl fun _ h => frame_next h

theorem frame_lhldOp (addr : Word) (s : State) (hw : PairIn W .hl) : Frame W s (lhldOp addr s) :=
  frame_readThen fun _ => frame_readThen fun _ => frame_next (Writes.refl.setPair hw _)

theorem frame_shldOp (addr : Word) (s : State) : Frame W s (shldOp addr s) :=
  frame_writeThen .refl fun _ h1 => frame_writeThen h1 fun _ h2 => frame_next h2

theorem frame_xthlOp (s : State) (hw : PairIn W .hl) : Frame W s (xthlOp s) :=
  frame_readThen fun _ => frame_readThen fun _ => frame_writeThen .refl fun _ h1 =>
    frame_writeThen h1 fun _ h2 => frame_next ((h2.step (.reg _ _) hw.2).step (.reg _ _) hw.1)

/-- CMP keeps A, the other seven operations write it. -/
theorem writes_aluStep (op : AluOp) (v : Byte) (s : State) (ha : op = .cmp ∨ W (.reg .a) = true)
    (hcy : W .cy = true) (hzsp : W .zsp = true) : Writes W s (aluStep op v s) := by
  refine Writes.setFlags ?_ _ (.inl hcy) (.inl hzsp)
  by_cases hop : op = .cmp
  · rw [if_pos hop]; exact .refl
  · rw [if_neg hop]; exact Writes.refl.step (.reg _ _) (ha.resolve_left hop)

theorem frame_aluOperandOp (op : AluOp) (o : Operand8) (s : State)
    (ha : op = .cmp ∨ W (.reg .a) = true) (hcy : W .cy = true) (hzsp : W .zsp = true) :
    Frame W s (aluOperandOp op o s) :=
  frame_readOperand fun v => frame_next (writes_aluStep op v s ha hcy hzsp)

theorem frame_incrementOp (o : Operand8) (s : State) (hw : OperandIn W o) (hzsp : W .zsp = true) :
    Frame W s (incrementOp o s) :=
  frame_readOperand fun _ => frame_writeOperand (Writes.refl.setFlags _ (.inr rfl) (.inl hzsp)) hw

theorem frame_decrementOp (o : Operand8) (s : State) (hw : OperandIn W o) (hzsp : W .zsp = true) :
    Frame W s (decrementOp o s) :=
  frame_readOperand fun _ => frame_writeOperand (Writes.refl.setFlags _ (.inr rfl) (.inl hzsp)) hw

theorem frame_dadOp (rp : RegPair) (s : State) (hcy : W .cy = true) (hw : PairIn W .hl) :
    Frame W s (dadOp rp s) :=
  frame_next ((Writes.refl.setCy hcy _).setPair hw _)

/-- A rotate: A and CY. -/
theorem frame_rotate {f : Flags → Byte → AluResult} (s : State) (ha : W (.reg .a) = true)
    (hcy : W .cy = true)
    (hf : ∀ fl a, (f fl a).flags.z = fl.z ∧ (f fl a).flags.s = fl.s ∧ (f fl a).flags.p = fl.p ∧
      (f fl a).flags.ac = fl.ac) : Frame W s (accStep f s) :=
  frame_next ((Writes.refl.step (.reg _ _) ha).setFlags _ (.inl hcy) (.inr (hf s.flags s.a)))

theorem frame_daaOp (s : State) (ha : W (.reg .a) = true) (hcy : W .cy = true)
    (hzsp : W .zsp = true) : Frame W s (daaOp s) :=
  frame_next ((Writes.refl.step (.reg _ _) ha).setFlags _ (.inl hcy) (.inl hzsp))

theorem frame_setCy (s : State) (cy : Bool) (hcy : W .cy = true) :
    Frame W s (.next (s.setFlags { s.flags with cy := cy })) :=
  frame_next (Writes.refl.setCy hcy cy)

theorem frame_jmpOp (w : Word) (s : State) (hpc : W .pc = true) : Frame W s (jmpOp w s) :=
  frame_next (Writes.refl.step (.pc _) hpc)

theorem frame_callOp (w : Word) (s : State) (hw : W .sp = true ∧ W .pc = true) :
    Frame W s (callOp w s) :=
  frame_push16 .refl hw.1 fun _ h => frame_next (h.step (.pc _) hw.2)

theorem frame_retOp (s : State) (hw : W .sp = true ∧ W .pc = true) : Frame W s (retOp s) :=
  frame_pop16 .refl hw.1 fun _ _ h => frame_next (h.step (.pc _) hw.2)

/-- An undocumented opcode keeps what the documented instruction keeps that it may run as. -/
theorem frame_undocumented (op : Byte) (size : Word) (o : Out) (s : State) (h : Frame W s o) :
    Frame W s (undocumented op size o s) := by
  unfold undocumented
  split
  · exact frame_raise _
  · exact h

theorem frame_push (w : Word) (s : State) (hsp : W .sp = true) :
    Frame W s (push16 s w .next) :=
  frame_push16 .refl hsp fun _ h => frame_next h

theorem frame_popOp (rp : RegPair) (s : State) (hsp : W .sp = true) (hw : PairIn W rp) :
    Frame W s (popOp rp s) :=
  frame_pop16 .refl hsp fun v _ h => frame_next (h.setPair hw v)

theorem frame_popPswOp (s : State) (hsp : W .sp = true) (ha : W (.reg .a) = true)
    (hcy : W .cy = true) (hzsp : W .zsp = true) : Frame W s (popPswOp s) :=
  frame_pop16 .refl hsp fun _ _ h =>
    frame_next ((h.setFlags _ (.inl hcy) (.inl hzsp)).step (.reg _ _) ha)

theorem frame_inOp (p : Byte) (s : State) (ha : W (.reg .a) = true)
    (hdraws : W .inputDraws = true) : Frame W s (inOp p s) := by
  refine frame_next (Writes.step ?_ (.reg _ _) ha)
  unfold portIn
  split
  · exact .refl
  · split
    · exact .refl
    · exact Writes.refl.step (.inputDraws _) hdraws

theorem frame_outOp (p : Byte) (s : State) (hw : W .ports = true) : Frame W s (outOp p s) := by
  refine frame_next ?_
  unfold portOut
  split
  · exact Writes.refl.step (.shift _) hw
  · split
    · exact Writes.refl.step (.shiftOff _) hw
    · exact Writes.refl.step (.outputs _) hw

theorem frame_eiOp (s : State) (hi : W .inte = true) (hsh : W .eiShadow = true) :
    Frame W s (eiOp s) := by
  refine frame_next ?_
  have hinte : Writes W s (s.setInte true) := Writes.refl.step (.inte _) hi
  split
  · exact hinte.step (.eiShadow _) hsh
  · exact hinte

end Operations

/-! ## The tables of R36 to R38 and R43, where an operation writes -/

theorem mayWriteReg_movReg (rd rs : Reg8) : mayWriteReg (Instr.movReg rd rs).opcode rd = true := by
  rw [opcode_movReg]
  cases rd <;> cases rs <;> rfl

theorem mayWriteReg_movFromM (rd : Reg8) : mayWriteReg (Instr.movFromM rd).opcode rd = true := by
  rw [opcode_movFromM]
  cases rd <;> rfl

theorem mayWriteReg_mviReg (rd : Reg8) (v : Byte) :
    mayWriteReg (Instr.mviReg rd v).opcode rd = true := by
  rw [opcode_mviReg]
  cases rd <;> rfl

theorem mayWrite_inr (rd : Reg8) :
    mayWriteReg (Instr.inr rd).opcode rd = true ∧ mayWriteZsp (Instr.inr rd).opcode = true := by
  rw [opcode_inr]
  cases rd <;> exact ⟨rfl, rfl⟩

theorem mayWrite_dcr (rd : Reg8) :
    mayWriteReg (Instr.dcr rd).opcode rd = true ∧ mayWriteZsp (Instr.dcr rd).opcode = true := by
  rw [opcode_dcr]
  cases rd <;> exact ⟨rfl, rfl⟩

theorem pairIn_lxi (rp : RegPair) (w : Word) : PairIn (mayWrite (.lxi rp w)) rp := by
  cases rp <;> simp only [PairIn, mayWrite, opcode_lxi] <;> decide

theorem pairIn_inx (rp : RegPair) : PairIn (mayWrite (.inx rp)) rp := by
  cases rp with
  | sp => rfl
  | _ => exact ⟨rfl, rfl⟩

theorem pairIn_dcx (rp : RegPair) : PairIn (mayWrite (.dcx rp)) rp := by
  cases rp with
  | sp => rfl
  | _ => exact ⟨rfl, rfl⟩

theorem mayWrite_dad (rp : RegPair) :
    mayWriteCy (Instr.dad rp).opcode = true ∧ PairIn (mayWrite (.dad rp)) .hl := by
  cases rp <;> exact ⟨rfl, rfl, rfl⟩

/-- The opcode is of an ALU form: its flags are written, and A unless it compares. -/
def AluWrites (op : AluOp) (opcode : Byte) : Prop :=
  (op = .cmp ∨ mayWriteReg opcode .a = true) ∧ mayWriteCy opcode = true ∧ mayWriteZsp opcode = true

theorem aluWrites_aluReg (op : AluOp) (rs : Reg8) : AluWrites op (Instr.aluReg op rs).opcode := by
  rw [opcode_aluReg]
  cases op with
  | cmp => cases rs <;> exact ⟨.inl rfl, rfl, rfl⟩
  | _ => cases rs <;> exact ⟨.inr rfl, rfl, rfl⟩

theorem aluWrites_aluM (op : AluOp) : AluWrites op (Instr.aluM op).opcode := by
  rw [opcode_aluM]
  cases op with
  | cmp => exact ⟨.inl rfl, rfl, rfl⟩
  | _ => exact ⟨.inr rfl, rfl, rfl⟩

theorem aluWrites_aluImm (op : AluOp) (v : Byte) : AluWrites op (Instr.aluImm op v).opcode := by
  rw [opcode_aluImm]
  cases op with
  | cmp => exact ⟨.inl rfl, rfl, rfl⟩
  | _ => exact ⟨.inr rfl, rfl, rfl⟩

theorem mayWritePc_jumpIf (cc : Cond) (w : Word) : mayWritePc (Instr.jumpIf cc w).opcode = true := by
  rw [opcode_jumpIf]
  cases cc <;> rfl

theorem mayWrite_callIf (cc : Cond) (w : Word) : mayWriteSp (Instr.callIf cc w).opcode = true ∧
    mayWritePc (Instr.callIf cc w).opcode = true := by
  rw [opcode_callIf]
  cases cc <;> exact ⟨rfl, rfl⟩

theorem mayWrite_returnIf (cc : Cond) : mayWriteSp (Instr.returnIf cc).opcode = true ∧
    mayWritePc (Instr.returnIf cc).opcode = true := by
  rw [opcode_returnIf]
  cases cc <;> exact ⟨rfl, rfl⟩

theorem mayWrite_rst (n : Fin 8) : mayWriteSp (Instr.rst n).opcode = true ∧
    mayWritePc (Instr.rst n).opcode = true := by
  match n with
  | 0 | 1 | 2 | 3 | 4 | 5 | 6 | 7 => exact ⟨rfl, rfl⟩

/-! ## Every instruction -/

/-- An instruction that completes writes nothing but the store and its own parts. -/
theorem exec_frame (i : Instr) (s : State) : Frame (mayWrite i) s (exec i s) := by
  have stay {W : Part → Bool} : Frame W s (.next s) := frame_next .refl
  revert i
  apply instr_forms
  case movReg =>
    intro rd rs
    rw [exec_movReg]
    exact frame_moveOp _ _ s (mayWriteReg_movReg rd rs)
  case movFromM =>
    intro rd
    rw [exec_movFromM]
    exact frame_moveOp _ _ s (mayWriteReg_movFromM rd)
  case movToM =>
    intro rs
    rw [exec_movToM]
    exact frame_moveOp _ _ s trivial
  case mviReg =>
    intro rd v
    rw [exec_mviReg]
    exact frame_writeOperand .refl (mayWriteReg_mviReg rd v)
  case lxi =>
    intro rp w
    rw [exec_lxi]
    exact frame_next (Writes.refl.setPair (pairIn_lxi rp w) w)
  case aluReg =>
    intro op rs
    obtain ⟨ha, hcy, hzsp⟩ := aluWrites_aluReg op rs
    rw [exec_aluReg]
    exact frame_aluOperandOp op _ s ha hcy hzsp
  case aluM =>
    intro op
    obtain ⟨ha, hcy, hzsp⟩ := aluWrites_aluM op
    rw [exec_aluM]
    exact frame_aluOperandOp op _ s ha hcy hzsp
  case aluImm =>
    intro op v
    obtain ⟨ha, hcy, hzsp⟩ := aluWrites_aluImm op v
    rw [exec_aluImm]
    exact frame_next (writes_aluStep op v s ha hcy hzsp)
  case inr =>
    intro rd
    obtain ⟨hreg, hzsp⟩ := mayWrite_inr rd
    rw [exec_inr]
    exact frame_incrementOp _ s hreg hzsp
  case dcr =>
    intro rd
    obtain ⟨hreg, hzsp⟩ := mayWrite_dcr rd
    rw [exec_dcr]
    exact frame_decrementOp _ s hreg hzsp
  case inx =>
    intro rp
    rw [exec_inx]
    exact frame_next (Writes.refl.setPair (pairIn_inx rp) _)
  case dcx =>
    intro rp
    rw [exec_dcx]
    exact frame_next (Writes.refl.setPair (pairIn_dcx rp) _)
  case dad =>
    intro rp
    obtain ⟨hcy, hpair⟩ := mayWrite_dad rp
    rw [exec_dad]
    exact frame_dadOp rp s hcy hpair
  case jumpIf =>
    intro cc w
    rw [exec_jumpIf]
    exact frame_if (frame_jmpOp w s (mayWritePc_jumpIf cc w)) stay
  case callIf =>
    intro cc w
    rw [exec_callIf]
    exact frame_if (frame_callOp w s (mayWrite_callIf cc w)) stay
  case returnIf =>
    intro cc
    rw [exec_returnIf]
    exact frame_if (frame_retOp s (mayWrite_returnIf cc)) stay
  case rst =>
    intro n
    rw [exec_rst]
    exact frame_callOp _ s (mayWrite_rst n)
  case nop => exact stay
  case staxB | staxD => exact frame_storeAccOp _ s
  case ldaxB | ldaxD => exact frame_loadAccOp _ s rfl
  case sta => exact fun w => frame_storeAccOp w s
  case lda => exact fun w => frame_loadAccOp w s (show mayWriteReg 0x3A .a = true from rfl)
  case shld => exact fun w => frame_shldOp w s
  case lhld =>
    exact fun w => frame_lhldOp w s (show mayWriteReg 0x2A .h = true ∧ mayWriteReg 0x2A .l = true from
      ⟨rfl, rfl⟩)
  case mviM => exact fun v => frame_writeOperand (o := .m) .refl trivial
  case xchg =>
    exact frame_next ((Writes.refl.setPair (rp := .hl) ⟨rfl, rfl⟩ _).setPair (rp := .de) ⟨rfl, rfl⟩ _)
  case rlc | rrc | ral | rar => exact frame_rotate s rfl rfl fun _ _ => ⟨rfl, rfl, rfl, rfl⟩
  case daa => exact frame_daaOp s rfl rfl rfl
  case cma => exact frame_next (Writes.refl.step (.reg .a _) rfl)
  case stc | cmc => exact frame_setCy s _ rfl
  case inrM => exact frame_incrementOp .m s trivial rfl
  case dcrM => exact frame_decrementOp .m s trivial rfl
  case jmp => exact fun w => frame_jmpOp w s (show mayWritePc 0xC3 = true from rfl)
  case pchl => exact frame_next (Writes.refl.step (.pc _) rfl)
  case call =>
    exact fun w => frame_callOp w s (show mayWriteSp 0xCD = true ∧ mayWritePc 0xCD = true from
      ⟨rfl, rfl⟩)
  case ret => exact frame_retOp s ⟨rfl, rfl⟩
  case pushB | pushD | pushH | pushPSW => exact frame_push _ s rfl
  case popB | popD | popH => exact frame_popOp _ s rfl ⟨rfl, rfl⟩
  case popPSW => exact frame_popPswOp s rfl rfl rfl rfl
  case xthl => exact frame_xthlOp s ⟨rfl, rfl⟩
  case sphl => exact frame_next (Writes.refl.step (.sp _) rfl)
  case inPort => exact fun v => frame_inOp v s (show mayWriteReg 0xDB .a = true from rfl) rfl
  case outPort => exact fun v => frame_outOp v s rfl
  case ei => exact frame_eiOp s rfl rfl
  case di => exact frame_next (Writes.refl.step (.inte _) rfl)
  case hlt => exact frame_next (Writes.refl.step (.halt _) rfl)
  case undoc08 | undoc10 | undoc18 | undoc20 | undoc28 | undoc30 | undoc38 =>
    exact frame_undocumented _ _ _ s stay
  case undocCB => exact fun w => frame_undocumented _ _ _ s (frame_jmpOp w s
      (show mayWritePc 0xCB = true from rfl))
  case undocD9 => exact frame_undocumented _ _ _ s (frame_retOp s ⟨rfl, rfl⟩)
  case undocDD =>
    exact fun w => frame_undocumented _ _ _ s (frame_callOp w s
      (show mayWriteSp 0xDD = true ∧ mayWritePc 0xDD = true from ⟨rfl, rfl⟩))
  case undocED =>
    exact fun w => frame_undocumented _ _ _ s (frame_callOp w s
      (show mayWriteSp 0xED = true ∧ mayWritePc 0xED = true from ⟨rfl, rfl⟩))
  case undocFD =>
    exact fun w => frame_undocumented _ _ _ s (frame_callOp w s
      (show mayWriteSp 0xFD = true ∧ mayWritePc 0xFD = true from ⟨rfl, rfl⟩))

/-- Settles O15: the register parts of `exec_frame`. -/
theorem registerFrame : Obligations.RegisterFrame := by
  intro i s s' h
  have hw := exec_frame i s s' h
  exact ⟨fun r => hw (.reg r), hw .sp, hw .pc⟩

/-- Settles O16: the flag parts of `exec_frame`. -/
theorem flagFrame : Obligations.FlagFrame := by
  intro i s s' h
  have hw := exec_frame i s s' h
  exact ⟨hw .cy, hw .zsp⟩

/-- Settles O17: the other parts of `exec_frame`. -/
theorem controlFrame : Obligations.ControlFrame := by
  intro i s s' h
  have hw := exec_frame i s s' h
  refine ⟨fun hei hdi => hw .inte ?_, fun hhlt => hw .halt ?_, fun hei => hw .eiShadow ?_,
    fun hout => hw .ports ?_, fun hin => hw .inputDraws ?_, hw .other rfl⟩
  · simp [mayWrite, hei, hdi]
  · simp [mayWrite, hhlt]
  · simp [mayWrite, hei]
  · cases i with
    | outPort p => exact absurd rfl (hout p)
    | _ => rfl
  · cases i with
    | inPort p => exact absurd rfl (hin p)
    | _ => rfl

end Sys2Proof.Machine
end

section
/-! What every step keeps (spec 10_state.md R50, R53, R56, R57, 60_exceptions.md R310, R326): a byte that no
write resolves to, a fault, and the machine's invariant. -/

namespace Sys2Proof.Machine

variable {s s' : State}

/-! ## A byte no address writes to -/

theorem OpUpdate.store_read {k : Nat} (h : OpUpdate s s')
    (hk : ∀ addr, resolveWrite s.cfg addr ≠ .found k) :
    Memory.read s'.store k = Memory.read s.store k := by
  cases h with
  | reg r v => rw [State.setReg_store]
  | store addr off v hoff _ =>
    have hne : k ≠ off := fun he => hk addr (he ▸ hoff)
    exact Memory.read_write_of_ne _ _ _ _ hne
  | _ => rfl

theorem StepUpdate.store_read {k : Nat} (h : StepUpdate s s')
    (hk : ∀ addr, resolveWrite s.cfg addr ≠ .found k) :
    Memory.read s'.store k = Memory.read s.store k := by
  cases h with
  | op hu => exact hu.store_read hk
  | _ => rfl

/-- Settles O10: no update of a step writes the byte, and a fault leaves the store. -/
theorem romNeverChanges : Obligations.RomNeverChanges := by
  intro s k hk
  have hU (s1 s2 : State) (hu : StepUpdate s1 s2)
      (h : s1.cfg = s.cfg ∧ Memory.read s1.store k = Memory.read s.store k) :
      s2.cfg = s.cfg ∧ Memory.read s2.store k = Memory.read s.store k := by
    obtain ⟨hcfg, hread⟩ := h
    obtain ⟨hcfg', -, -⟩ := hu.sameParameters
    exact ⟨hcfg'.trans hcfg, (hu.store_read (hcfg ▸ hk)).trans hread⟩
  refine ⟨fun s' h => (step_keeps hU ⟨rfl, rfl⟩ h).2, fun f h => ?_⟩
  obtain ⟨s1, r, ⟨-, hread⟩, hf⟩ := step_keeps_fault hU ⟨rfl, rfl⟩ h
  rw [hf]
  exact hread

/-! ## A fault is terminal -/

/-- A step's fault is a record, with the state it is set in. -/
theorem step_fault {f : Fault} (h : step s = .fault f) : ∃ r, f.final.fault = some r ∧
    f = r.toFault f.final := by
  have hv := step_via s
  rw [h] at hv
  obtain ⟨s1, r, -, rfl⟩ := hv
  exact ⟨r, by rw [r.toFault_final]; rfl, by rw [r.toFault_final]⟩

/-- To raise the record that FAULT holds changes nothing. -/
theorem raise_of_fault {α : Type} {r : FaultRecord} (h : s.fault = some r) :
    (raise s r : Host.Outcome α Fault Refusal) = .fault (r.toFault s) := by
  have hs : s.setFault (some r) = s := by rw [← h]; rfl
  rw [raise, hs]

theorem step_of_fault {r : FaultRecord} (h : s.fault = some r) : step s = .fault (r.toFault s) := by
  rw [← raise_of_fault h]
  simp only [step, frameStep, h]

theorem engineStep_of_fault {r : FaultRecord} (h : s.fault = some r) :
    engineStep s = .fault (r.toFault s) := by
  rw [← raise_of_fault h]
  simp only [engineStep, h]

/-- Settles O11: a step's fault is raised, so FAULT holds its record, which is raised again. -/
theorem faultIsTerminal : Obligations.FaultIsTerminal := by
  refine ⟨fun s f h => ?_, fun s n hf hn => ?_⟩
  · obtain ⟨r, hr, hfinal⟩ := step_fault h
    rw [step_of_fault hr, engineStep_of_fault hr, ← hfinal]
    exact ⟨by simp [hr], rfl, rfl⟩
  · simp only [interrupt, if_neg (Nat.not_le.mpr hn), if_pos hf]

/-! ## The store, FAULT and DIP -/

/-- The part of the invariant that does not speak of the EI shadow. -/
def StoreRule (s : State) : Prop :=
  Memory.wf s.store ∧ storeInside s ∧ s.fault = none ∧ s.dip = s.cfg.dipSwitches

theorem OpUpdate.keeps_storeRule (h : OpUpdate s s') (hs : StoreRule s) : StoreRule s' := by
  cases h with
  | reg r v => cases r <;> exact hs
  | store addr off v _ hlt =>
    obtain ⟨hwf, hinside, hrest⟩ := hs
    refine ⟨Memory.write_wf _ _ hwf, fun x hx => ?_, hrest⟩
    obtain rfl | hx := Memory.mem_write hx
    · exact hlt
    · exact hinside x hx
  | _ => exact hs

theorem StepUpdate.keeps_storeRule (h : StepUpdate s s') (hs : StoreRule s) : StoreRule s' := by
  cases h with
  | op hu => exact hu.keeps_storeRule hs
  | _ => exact hs

/-! ## The EI shadow -/

theorem OpUpdate.keeps_noDelay (h : OpUpdate s s') (hs : s.cfg.eiDelay = false → s.eiShadow = false) :
    s'.cfg.eiDelay = false → s'.eiShadow = false := by
  cases h with
  | reg r v => cases r <;> exact hs
  | eiShadow hdelay => exact fun hd => absurd hdelay (ne_true_of_eq_false hd)
  | _ => exact hs

/-- An acceptance clears HALT and leaves EISHADOW, PENDING and the parameters. -/
theorem accept_keeps_shadowRule {n : BitVec 3} {y : State × Nat} (hs : shadowRule s)
    (h : accept n s = .next y) : shadowRule y.1 := by
  obtain ⟨hdelay, hpending, -⟩ := hs
  obtain ⟨s1, s2, h1, h2, rfl⟩ := accept_next h
  obtain ⟨m1, rfl⟩ := memWrite_setStore h1
  obtain ⟨m2, rfl⟩ := memWrite_setStore h2
  simpa [shadowRule] using And.intro hdelay hpending

/-- An offer sets PENDING only under EISHADOW. -/
theorem interrupt_keeps_shadowRule {n : Nat} {y : State × Nat} (hs : shadowRule s)
    (h : interrupt n s = .next y) : shadowRule y.1 := by
  obtain ⟨-, rfl | ⟨hshadow, -, rfl⟩ | ⟨-, -, ha⟩⟩ := interrupt_next h
  · exact hs
  · obtain ⟨hdelay, -, hhalt⟩ := hs
    exact ⟨hdelay, fun hoff => absurd hshadow (ne_true_of_eq_false hoff), hhalt⟩
  · exact accept_keeps_shadowRule hs ha

/-- The operation starts with the shadow closed and nothing pending. -/
theorem beginOperation_shadow (i : Instr) (hs : shadowRule s) :
    (beginOperation i s).eiShadow = false ∧ (beginOperation i s).pending = none := by
  obtain ⟨-, hpending, -⟩ := hs
  refine ⟨rfl, ?_⟩
  simp only [beginOperation, State.setPending_pending]
  split
  · rfl
  · next hoff => exact hpending (Bool.eq_false_of_not_eq_true hoff)

/-- Only EI opens the shadow and only HLT halts: no operation does both. -/
theorem exec_shadowRule {i : Instr} (hshadow : s.eiShadow = false) (hpending : s.pending = none)
    (hhalt : s.halt = false) (h : exec i s = .next s') : shadowRule s' := by
  obtain ⟨-, hhlt, hei, -, -, -, hpending', -⟩ := controlFrame i s s' h
  have hv := exec_via i s
  rw [h] at hv
  refine ⟨hv.keeps (fun _ _ hu => hu.keeps_noDelay) fun _ => hshadow, fun _ => hpending'.trans hpending,
    fun hhalted => ?_⟩
  by_cases hi : i = .ei
  · have hrun : s'.halt = false := (hhlt (by rw [hi]; decide)).trans hhalt
    exact absurd hhalted (ne_true_of_eq_false hrun)
  · exact (hei hi).trans hshadow

theorem runInstr_keeps_shadowRule {i : Instr} {y : State × Nat} (hs : shadowRule s)
    (hhalt : s.halt = false) (h : runInstr i s = .next y) : shadowRule y.1 := by
  obtain ⟨hshadow, hpending⟩ := beginOperation_shadow i hs
  obtain ⟨s2, he, hend⟩ := runInstr_next h
  have hs2 : shadowRule s2 := exec_shadowRule hshadow hpending hhalt he
  obtain rfl | ⟨k, s3, extra, -, -, ha, rfl⟩ := endOperation_next hend
  · exact hs2
  · exact accept_keeps_shadowRule (y := (s3, extra)) hs2 ha

theorem engineStep_keeps_shadowRule {y : State × Nat} (hs : shadowRule s)
    (h : engineStep s = .next y) : shadowRule y.1 := by
  obtain ⟨-, ⟨-, rfl⟩ | ⟨hhalt, i, -, hr⟩⟩ := engineStep_next h
  · exact hs
  · exact runInstr_keeps_shadowRule hs hhalt hr

theorem shadowRule_setCyc (hs : shadowRule s) (n : Nat) : shadowRule (s.setCyc n) := hs

theorem shadowRule_setMidFired (hs : shadowRule s) (v : Bool) : shadowRule (s.setMidFired v) := hs

theorem shadowRule_startFrame (hs : shadowRule s) : shadowRule (startFrame s) := hs

theorem endOfFrame_keeps_shadowRule (hs : shadowRule s) (h : endOfFrame s = .next s') :
    shadowRule s' := by
  obtain ⟨-, s1, n, hi, rfl⟩ | ⟨-, rfl⟩ := endOfFrame_next h
  · have hs1 : shadowRule s1 := interrupt_keeps_shadowRule hs hi
    exact shadowRule_startFrame (shadowRule_setCyc hs1 _)
  · exact hs

theorem boundary_keeps_shadowRule {o : StepOut} (hs : ∀ y, o = .next y → shadowRule y.1)
    (h : boundary o = .next s') : shadowRule s' := by
  obtain ⟨s1, n, ho, hmid⟩ := charge_next h
  have hs1 : shadowRule (s1.setCyc (s1.cyc + n)) := shadowRule_setCyc (hs _ ho) _
  obtain ⟨s2, n2, hi, hend⟩ | hend := midFrameOffer_next hmid
  · have hs2 : shadowRule s2 := interrupt_keeps_shadowRule (shadowRule_setMidFired hs1 true) hi
    exact endOfFrame_keeps_shadowRule (shadowRule_setCyc hs2 _) hend
  · exact endOfFrame_keeps_shadowRule hs1 hend

theorem step_keeps_shadowRule (hs : shadowRule s) (h : step s = .next s') : shadowRule s' := by
  obtain ⟨-, ⟨-, -, hb⟩ | ⟨-, he⟩⟩ := step_next h
  · exact boundary_keeps_shadowRule (fun _ => engineStep_keeps_shadowRule hs) hb
  · exact endOfFrame_keeps_shadowRule hs he

/-! ## The invariant -/

theorem inv_iff : s.Inv ↔ StoreRule s ∧ shadowRule s := by
  simp only [State.Inv, StoreRule]
  tauto

/-- Settles O8: every update keeps the store's rule, and the order of a step's parts keeps the shadow's. -/
theorem stepKeepsInvariant : Obligations.StepKeepsInvariant := by
  intro s s' hs h
  obtain ⟨hstore, hshadow⟩ := inv_iff.mp hs
  exact inv_iff.mpr
    ⟨step_keeps (fun _ _ hu => hu.keeps_storeRule) hstore h, step_keeps_shadowRule hshadow h⟩

/-- Settles O7: the store is empty, the shadow closed, nothing is pending and DIP is the parameter's. -/
theorem resetMeetsInvariant : Obligations.ResetMeetsInvariant :=
  ⟨State.reset_store_wf, fun _ hx => absurd hx List.not_mem_nil, ⟨fun _ => rfl, fun _ => rfl,
    fun _ => rfl⟩, rfl, rfl⟩

end Sys2Proof.Machine
end

section
/-! What construction leaves (spec 10_state.md R58, 70_reset_and_hazards.md R370 to R372): the bytes of the
ROM image and of the draw, each at its offset. -/

namespace Sys2Proof.Machine

/-! ## The ROM part -/

theorem placeBytes_read (bytes : List Byte) (base : Nat) (m : Memory) (hm : Memory.wf m) (k : Nat) :
    Memory.read (placeBytes base bytes m) k =
      if base ≤ k ∧ k < base + bytes.length then bytes.getD (k - base) 0 else Memory.read m k := by
  induction bytes generalizing base m with
  | nil => simp [placeBytes]
  | cons v rest ih =>
    rw [placeBytes, ih _ _ (Memory.write_wf base v hm), Memory.read_write m base k v hm,
      List.length_cons]
    by_cases hk : k = base
    · subst hk
      simp
    · by_cases hin : base ≤ k ∧ k < base + (rest.length + 1)
      · obtain ⟨j, hj⟩ : ∃ j, k - base = j + 1 := ⟨k - base - 1, by omega⟩
        rw [if_pos (by omega), if_pos hin, hj, List.getD_cons_succ, show k - (base + 1) = j by omega]
      · rw [if_neg (by omega), if_neg hk, if_neg hin]

/-! ## The RAM part -/

/-- One cell of a draw is placed, or lies outside the RAM part. -/
def placeCell (storeSize : Nat) (m : Memory) (x : Host.Cell) : Memory :=
  if romSize ≤ x.1 ∧ x.1 < storeSize then Memory.write m x.1 x.2 else m

theorem placeRam_eq (storeSize : Nat) (cells : Memory) :
    placeRam storeSize cells = cells.foldl (placeCell storeSize) [] := rfl

section Cells

variable {storeSize k : Nat} {m : Memory}

theorem placeCell_wf (x : Host.Cell) (hm : Memory.wf m) : Memory.wf (placeCell storeSize m x) := by
  unfold placeCell
  split
  · exact Memory.write_wf _ _ hm
  · exact hm

theorem placeCell_read_of_ne {x : Host.Cell} (hk : k ≠ x.1) :
    Memory.read (placeCell storeSize m x) k = Memory.read m k := by
  unfold placeCell
  split
  · exact Memory.read_write_of_ne _ _ _ _ hk
  · rfl

theorem placeCell_read_same {v : Byte} (hm : Memory.wf m) (hlo : romSize ≤ k) (hhi : k < storeSize) :
    Memory.read (placeCell storeSize m (k, v)) k = v := by
  rw [placeCell, if_pos ⟨hlo, hhi⟩]
  exact Memory.read_write_same m k v hm

theorem placeCells_wf (cells : Memory) (hm : Memory.wf m) :
    Memory.wf (cells.foldl (placeCell storeSize) m) := by
  induction cells generalizing m with
  | nil => exact hm
  | cons x rest ih => exact ih (placeCell_wf x hm)

theorem placeCells_read_of_not_mem {cells : Memory} (hk : ∀ x ∈ cells, k ≠ x.1) :
    Memory.read (cells.foldl (placeCell storeSize) m) k = Memory.read m k := by
  induction cells generalizing m with
  | nil => rfl
  | cons x rest ih =>
    rw [List.forall_mem_cons] at hk
    rw [List.foldl_cons, ih hk.2, placeCell_read_of_ne hk.1]

/-- Over a store that lists nothing at an offset of the RAM part, the cells' byte is read there. -/
theorem placeCells_read {cells : Memory} (hcells : cells.Pairwise fun x y => x.1 < y.1)
    (hm : Memory.wf m) (hlo : romSize ≤ k) (hhi : k < storeSize)
    (hk : Memory.read m k = Memory.unlisted k) :
    Memory.read (cells.foldl (placeCell storeSize) m) k = Memory.read cells k := by
  induction cells generalizing m with
  | nil => exact hk
  | cons x rest ih =>
    obtain ⟨k', v⟩ := x
    obtain ⟨hhead, htail⟩ := List.pairwise_cons.mp hcells
    rw [List.foldl_cons, Memory.read]
    by_cases he : k = k'
    · subst he
      rw [if_pos rfl, placeCells_read_of_not_mem fun y hy => Nat.ne_of_lt (hhead y hy),
        placeCell_read_same hm hlo hhi]
    · rw [if_neg he]
      exact ih htail (placeCell_wf _ hm) ((placeCell_read_of_ne he).trans hk)

end Cells

theorem Memory.nil_wf : Memory.wf [] := ⟨List.Pairwise.nil, by simp⟩

theorem placeRam_wf (storeSize : Nat) (cells : Memory) : Memory.wf (placeRam storeSize cells) := by
  rw [placeRam_eq]
  exact placeCells_wf cells Memory.nil_wf

theorem placeRam_read {storeSize k : Nat} {cells : Memory} (hcells : Memory.wf cells)
    (hlo : romSize ≤ k) (hhi : k < storeSize) :
    Memory.read (placeRam storeSize cells) k = Memory.read cells k := by
  rw [placeRam_eq]
  exact placeCells_read hcells.1 Memory.nil_wf hlo hhi (Memory.read_nil k)

/-! ## The machine made -/

theorem construct_isSome_iff (files : List (List Byte)) (cfg : Config) (draw : ResetDraw)
    (running : Bool) : (construct files cfg draw running).isSome = true ↔
      files.length = 4 ∧ (∀ f ∈ files, f.length = 2048) ∧ cfg.mapWellFormed = true := by
  unfold construct
  split
  · next h => exact ⟨fun _ => h, fun _ => rfl⟩
  · next h => exact ⟨fun hsome => absurd hsome Bool.false_ne_true, fun hgood => absurd hgood h⟩

theorem construct_eq_some {files : List (List Byte)} {cfg : Config} {draw : ResetDraw}
    {running : Bool} {s : State} (h : construct files cfg draw running = some s) :
    files.length = 4 ∧ (∀ f ∈ files, f.length = 2048) ∧
      s = State.constructed cfg draw
        (placeBytes 0 files.flatten (placeRam cfg.storeSize draw.ram)) running := by
  unfold construct at h
  split at h
  · next hgood => exact ⟨hgood.1, hgood.2.1, (Option.some.inj h).symm⟩
  · cases h

/-- The four files are the ROM image's bytes. -/
theorem flatten_length_of_files {files : List (List Byte)} (hfour : files.length = 4)
    (hlen : ∀ f ∈ files, f.length = 2048) : files.flatten.length = romSize := by
  have hmap : files.map List.length = List.replicate 4 2048 :=
    List.eq_replicate_iff.mpr ⟨by rw [List.length_map, hfour], by simpa using hlen⟩
  rw [List.length_flatten, hmap]
  rfl

/-- Settles O6: the fields are the table's, and each byte of the store is the last one placed there. -/
theorem constructionLeaves : Obligations.ConstructionLeaves := by
  intro files cfg draw running
  refine ⟨construct_isSome_iff files cfg draw running, fun s h => ?_⟩
  obtain ⟨hfour, hlen, rfl⟩ := construct_eq_some h
  have hsize : files.flatten.length = 0x2000 := flatten_length_of_files hfour hlen
  have hread (k : Nat) := placeBytes_read files.flatten 0 _ (placeRam_wf cfg.storeSize draw.ram) k
  have hrom : ∀ k < 0x2000, Memory.read (placeBytes 0 files.flatten
      (placeRam cfg.storeSize draw.ram)) k = files.flatten.getD k 0 := by
    intro k hk
    rw [hread, if_pos (by omega), Nat.sub_zero]
  have hram : Memory.wf draw.ram → ∀ k, 0x2000 ≤ k → k < cfg.storeSize →
      Memory.read (placeBytes 0 files.flatten (placeRam cfg.storeSize draw.ram)) k =
        Memory.read draw.ram k := by
    intro hwf k hlo hhi
    rw [hread, if_neg (by omega), placeRam_read hwf hlo hhi]
  exact ⟨rfl, rfl, rfl, rfl, rfl, rfl, rfl, rfl, rfl, rfl, rfl, rfl, rfl, rfl, rfl, rfl, rfl, rfl,
    rfl, rfl, rfl, rfl, rfl, hrom, hram⟩

end Sys2Proof.Machine
end

section
/-! Registers, flags and jumps (spec 10_state.md R31, R40, R45 to R47, 43_branch.md R250, R251, R257). -/

namespace Sys2Proof.Machine

/-! ## The register file -/

/-- Settles O12: the register file's own lemmas, and a pair as the number its two bytes make. -/
theorem registerFileLaw : Obligations.RegisterFileLaw := by
  intro s r r' rp v w
  have hpair : (s.setPair rp w).pair rp = w := by rw [State.setPair_pair, if_pos rfl]
  have hothers (rp' : RegPair) (hne : rp' ≠ rp) : (s.setPair rp w).pair rp' = s.pair rp' := by
    rw [State.setPair_pair, if_neg hne]
  exact ⟨s.setReg_reg r r' v, s.setReg_sp r v, hpair, hothers, s.setPair_a rp w, rfl, rfl, rfl, rfl,
    rfl, rfl, joinBytes_toNat _ _, joinBytes_toNat _ _, joinBytes_toNat _ _⟩

/-! ## Z, S and P -/

theorem length_filter_eq_sum_toNat {α : Type} (p : α → Bool) (l : List α) :
    (l.filter p).length = (l.map fun x => (p x).toNat).sum := by
  induction l with
  | nil => rfl
  | cons x rest ih => cases hx : p x <;> simp [hx, ih, Nat.add_comm]

/-- R14: the number of set bits is the sum of the bits. -/
theorem popcount_eq_sum (v : Byte) :
    popcount v = ((List.range 8).map fun k => v.toNat / 2 ^ k % 2).sum := by
  simp only [popcount, length_filter_eq_sum_toNat, BitVec.getLsbD, Nat.toNat_testBit]

theorem getLsbD_seven (v : Byte) : v.getLsbD 7 = decide (128 ≤ v.toNat) := by
  have h := BitVec.msb_eq_decide v
  rwa [BitVec.msb_eq_getLsbD_last] at h

/-- Settles O13: the result byte's bits as numbers. -/
theorem zspRule : Obligations.ZspRule := by
  intro f r
  have hzero : (r = 0) = (r.toNat = 0) := propext (by rw [← BitVec.toNat_inj]; rfl)
  simp only [zsp, hzero, getLsbD_seven, popcount_eq_sum]

/-! ## The flag byte -/

/-- The bits of the flag byte (R46), from bit 7 to bit 0: S Z 0 AC 0 P 1 CY. -/
def flagBits (s z ac p cy : Bool) : Byte :=
  BitVec.ofBool s ++ BitVec.ofBool z ++ 0#1 ++ BitVec.ofBool ac ++ 0#1 ++ BitVec.ofBool p ++ 1#1 ++
    BitVec.ofBool cy

theorem packFlags_eq_flagBits (s z ac p cy : Bool) :
    packFlags ⟨s, z, ac, p, cy⟩ = flagBits s z ac p cy := by
  cases s <;> cases z <;> cases ac <;> cases p <;> cases cy <;> rfl

theorem unpackFlags_flagBits (s z ac p cy : Bool) :
    unpackFlags (flagBits s z ac p cy) = ⟨s, z, ac, p, cy⟩ := by
  cases s <;> cases z <;> cases ac <;> cases p <;> cases cy <;> rfl

/-- The flag byte of a byte's own flag bits: that byte with bits 5 and 3 cleared and bit 1 set. -/
theorem flagBits_getLsbD (v : Byte) :
    flagBits (v.getLsbD 7) (v.getLsbD 6) (v.getLsbD 4) (v.getLsbD 2) (v.getLsbD 0) =
      (v &&& 0xD5) ||| 0x02 := by
  refine BitVec.eq_of_getLsbD_eq fun i hi => ?_
  simp only [flagBits, BitVec.getLsbD_append]
  interval_cases i <;> simp

theorem packFlags_toNat (f : Flags) : (packFlags f).toNat =
    128 * f.s.toNat + 64 * f.z.toNat + 16 * f.ac.toNat + 4 * f.p.toNat + 2 + f.cy.toNat := by
  have hs := f.s.toNat_lt
  have hz := f.z.toNat_lt
  have hac := f.ac.toNat_lt
  have hp := f.p.toNat_lt
  have hcy := f.cy.toNat_lt
  rw [packFlags, BitVec.toNat_ofNat, Nat.mod_eq_of_lt (by omega)]
  omega

/-- Settles O14: the packed byte as its bits, from which both round trips follow. -/
theorem flagByteLayout : Obligations.FlagByteLayout := by
  refine ⟨fun f => ⟨packFlags_toNat f, ?_⟩, fun v => ⟨rfl, ?_⟩⟩
  · rw [packFlags_eq_flagBits, unpackFlags_flagBits]
  · rw [unpackFlags, packFlags_eq_flagBits, flagBits_getLsbD]

/-! ## Jumps -/

theorem jumpIfOp_eq (cc : Cond) (w : Word) (s : State) :
    jumpIfOp cc w s = .next (if condHolds s.flags cc = true then { s with pc := w } else s) := by
  unfold jumpIfOp
  split <;> rfl

/-- Settles O36: JMP and PCHL by definition, each Jcc by its condition's flag. -/
theorem jumpResult : Obligations.JumpResult := by
  intro w s
  have hjump (cc : Cond) := (exec_jumpIf s cc w).trans (jumpIfOp_eq cc w s)
  refine ⟨rfl, rfl, (hjump .nz).trans ?_, hjump .z, (hjump .nc).trans ?_, hjump .c,
    (hjump .po).trans ?_, hjump .pe, (hjump .p).trans ?_, hjump .m⟩ <;>
    simp only [condHolds, Bool.not_eq_true']

end Sys2Proof.Machine
end

section
/-! One byte access (spec 20_memory.md R76 to R81, R89, R92): what it does by the chunk that decides, and
what a read finds after a write. -/

namespace Sys2Proof.Machine

open Sys2Proof.Claims

section Access

variable {s : State} {cfg : Config} {addr : Word} {v : Byte} {off : Nat} {ch : Chunk}

/-! ## The chunk that decides -/

theorem findChunk_eq_none (h : ∀ ch ∈ cfg.chunkMap, chunkCovers addr ch = false) :
    findChunk cfg addr = none := by
  simpa [findChunk] using h

/-- Priority order: the chunks before the one found do not cover the address. -/
theorem findChunk_eq_some {before after : List Chunk} (hmap : cfg.chunkMap = before ++ ch :: after)
    (hbefore : ∀ x ∈ before, chunkCovers addr x = false) (hch : chunkCovers addr ch = true) :
    findChunk cfg addr = some ch := by
  rw [findChunk, hmap, List.find?_eq_some_iff_append]
  exact ⟨hch, before, after, rfl, fun x hx => by simp [hbefore x hx]⟩

theorem memRead_of_findChunk (h : findChunk s.cfg addr = some ch) :
    memRead s addr = if physOffset ch addr < s.cfg.storeSize then
        .ok (Memory.read s.store (physOffset ch addr))
      else .error (.physicalOffsetOutOfRange addr) := by
  simp only [memRead, resolveRead, h, Option.map_some]

theorem resolveWrite_of_ram (h : findChunk cfg addr = some ch) (hkind : ch.kind = .ram) :
    resolveWrite cfg addr = .found (physOffset ch addr) := by
  simp only [resolveWrite, h, hkind]

theorem resolveWrite_of_rom (h : findChunk cfg addr = some ch) (hkind : ch.kind = .rom) :
    resolveWrite cfg addr = .rejected := by
  simp only [resolveWrite, h, hkind]

/-! ## A read after a write -/

/-- A write to RAM is read at every address of the same byte and nowhere else. -/
theorem memRead_setStore_write (hm : Memory.wf s.store) (hram : ramAt s addr off) (b : Word) :
    memRead (s.setStore (Memory.write s.store off v)) b =
      if resolveRead s.cfg b = some off then .ok v else memRead s b := by
  obtain ⟨-, hlt⟩ := hram
  cases hb : resolveRead s.cfg b with
  | none => simp [memRead, hb]
  | some k =>
    by_cases hk : k = off
    · subst hk
      simp [memRead, hb, hlt, Memory.read_write_same _ _ _ hm]
    · simp [memRead, hb, hk, Memory.read_write_of_ne _ _ _ _ hk]

/-- A byte written at one address of RAM is read at any other address of the same byte. -/
theorem write_then_read {b : Word} (hm : Memory.wf s.store) (hram : ramAt s addr off)
    (hb : resolveRead s.cfg b = some off) :
    ∃ s', memWrite s addr v = .ok s' ∧ memRead s' b = .ok v :=
  ⟨_, memWrite_ram hram.1 hram.2, by rw [memRead_setStore_write hm hram, if_pos hb]⟩

/-! ## The default map -/

theorem findChunk_default_ram (hmap : cfg.chunkMap = defaultChunkMap) (hlo : 0x2000 ≤ addr.toNat)
    (hhi : addr.toNat < 0x4000) :
    findChunk cfg addr = some { start := 0x2000, phys := 0x2000, len := 0x2000, kind := .ram } := by
  refine findChunk_eq_some (before := [_]) hmap ?_ ?_
  · simp [chunkCovers, hlo]
  · simp [chunkCovers, hlo, hhi]

theorem resolveWrite_default_ram (hmap : cfg.chunkMap = defaultChunkMap) (hlo : 0x2000 ≤ addr.toNat)
    (hhi : addr.toNat < 0x4000) : resolveWrite cfg addr = .found addr.toNat := by
  rw [resolveWrite_of_ram (findChunk_default_ram hmap hlo hhi) rfl]
  exact congrArg WriteTarget.found (show 0x2000 + (addr.toNat - 0x2000) = addr.toNat by omega)

theorem findChunk_default_mirror (hmap : cfg.chunkMap = defaultChunkMap) (hlo : 0x4000 ≤ addr.toNat)
    (hhi : addr.toNat < 0x6000) :
    findChunk cfg addr = some { start := 0x4000, phys := 0x2000, len := 0x2000, kind := .ram } := by
  refine findChunk_eq_some (before := [_, _]) hmap ?_ ?_
  · simp [chunkCovers, hlo]
    omega
  · simp [chunkCovers, hlo, hhi]

/-- The mirror lies over the RAM 0x2000 below it. -/
theorem resolveWrite_default_mirror (hmap : cfg.chunkMap = defaultChunkMap)
    (hlo : 0x4000 ≤ addr.toNat) (hhi : addr.toNat < 0x6000) :
    resolveWrite cfg addr = .found (addr.toNat - 0x2000) := by
  rw [resolveWrite_of_ram (findChunk_default_mirror hmap hlo hhi) rfl]
  exact congrArg WriteTarget.found
    (show 0x2000 + (addr.toNat - 0x4000) = addr.toNat - 0x2000 by omega)

end Access

/-- Settles O19: the chunk found decides, and none is found where none covers the address. -/
theorem accessRule : Obligations.AccessRule := by
  intro s addr v
  refine ⟨fun hnone => ?_, fun before after ch hmap hbefore hch => ?_⟩
  · have hf := findChunk_eq_none hnone
    simp [memRead, memWrite, resolveRead, resolveWrite, hf]
  · have hf := findChunk_eq_some hmap hbefore hch
    refine ⟨memRead_of_findChunk hf, fun hram => ?_, fun hrom hpolicy => ?_, fun hrom hpolicy => ?_⟩
    · simp only [memWrite, resolveWrite_of_ram hf hram]
      rfl
    · simp only [memWrite, resolveWrite_of_rom hf hrom, hpolicy]
    · simp only [memWrite, resolveWrite_of_rom hf hrom, hpolicy]

/-- Settles O20: the read after the write, at the byte's addresses and at the others. -/
theorem readAfterWrite : Obligations.ReadAfterWrite := by
  intro s addr off v hm hram
  refine ⟨_, memWrite_ram hram.1 hram.2, fun b => ⟨fun hb => ?_, fun hb => ?_⟩⟩
  · rw [memRead_setStore_write hm hram, if_pos hb]
  · rw [memRead_setStore_write hm hram, if_neg hb]

/-- Settles O21: a RAM address and the one 0x2000 above it resolve to the same byte. -/
theorem mirrorLaw : Obligations.MirrorLaw := by
  intro s addr v hm hmap hsize hlo hhi
  have hup : (addr + 0x2000).toNat = addr.toNat + 0x2000 := by bv_omega
  have hram : ramAt s addr addr.toNat := ⟨resolveWrite_default_ram hmap hlo hhi, by omega⟩
  have hmirror : ramAt s (addr + 0x2000) addr.toNat := by
    refine ⟨?_, by omega⟩
    rw [resolveWrite_default_mirror hmap (by omega) (by omega), hup, Nat.add_sub_cancel]
  exact ⟨write_then_read hm hmirror (resolveRead_of_found hram.1),
    write_then_read hm hram (resolveRead_of_found hmirror.1)⟩

end Sys2Proof.Machine
end

section
/-! The frame of memory (spec 20_memory.md R86): an operation that completes has changed no byte but those
its stores resolve to. -/

namespace Sys2Proof.Machine

open Sys2Proof.Claims

/-! ## Bytes kept but those of some addresses -/

/-- `s'` has the parameters of `s`, and every byte of its store that no address of `xs` resolves to. -/
def StoredAt (xs : List Word) (s s' : State) : Prop :=
  s'.cfg = s.cfg ∧ ∀ k, (∀ x ∈ xs, resolveRead s.cfg x ≠ some k) →
    Memory.read s'.store k = Memory.read s.store k

/-- Where the operation's answer is a next state, it has stored at no address but those of `xs`. -/
def StoresAt (xs : List Word) (s : State) (o : Out) : Prop := ∀ s', o = .next s' → StoredAt xs s s'

section Rules

variable {xs : List Word} {s0 s s1 : State} {addr : Word} {v : Byte}

theorem StoredAt.refl : StoredAt xs s s := ⟨rfl, fun _ _ => rfl⟩

/-- An update that leaves the parameters and the store. -/
theorem StoredAt.congr (h : StoredAt xs s0 s) (hcfg : s1.cfg = s.cfg) (hstore : s1.store = s.store) :
    StoredAt xs s0 s1 := by
  obtain ⟨hcfg0, hread⟩ := h
  exact ⟨hcfg.trans hcfg0, fun k hk => by rw [hstore, hread k hk]⟩

/-- A completed write of an address of `xs`: no byte has changed but the one it resolves to. -/
theorem StoredAt.after_memWrite (h : StoredAt xs s0 s) (hmem : addr ∈ xs)
    (hw : memWrite s addr v = .ok s1) : StoredAt xs s0 s1 := by
  obtain ⟨-, -, rfl⟩ | ⟨off, hfound, -, rfl⟩ := memWrite_ok hw
  · exact h
  · obtain ⟨hcfg0, hread⟩ := h
    refine ⟨hcfg0, fun k hk => ?_⟩
    have hoff : resolveRead s0.cfg addr = some off := hcfg0 ▸ resolveRead_of_found hfound
    have hne : k ≠ off := fun he => hk addr hmem (he ▸ hoff)
    rw [State.setStore_store, Memory.read_write_of_ne _ _ _ _ hne, hread k hk]

/-- An address that resolves to the byte of none of `xs` reads as before. -/
theorem StoredAt.memRead_eq (h : StoredAt xs s s1)
    (haddr : ∀ x ∈ xs, resolveRead s.cfg addr ≠ resolveRead s.cfg x) :
    memRead s1 addr = memRead s addr := by
  obtain ⟨hcfg, hread⟩ := h
  cases hk : resolveRead s.cfg addr with
  | none => simp [memRead, hcfg, hk]
  | some k =>
    have hsame := hread k fun x hx he => haddr x hx (hk.trans he.symm)
    simp [memRead, hcfg, hk, hsame]

theorem storesAt_next (h : StoredAt xs s0 s) : StoresAt xs s0 (.next s) := by
  intro s' hn
  injection hn with hn
  exact hn ▸ h

/-- An operation that goes on to a state with the parameters and the store it started with. -/
theorem storesAt_keep (hcfg : s1.cfg = s.cfg) (hstore : s1.store = s.store) :
    StoresAt xs s (.next s1) :=
  storesAt_next (StoredAt.refl.congr hcfg hstore)

theorem storesAt_raise (r : FaultRecord) : StoresAt xs s0 (raise s r) :=
  fun s' h => absurd h (raise_ne_next s r s')

theorem storesAt_readThen {k : Byte → Out} (hk : ∀ v, StoresAt xs s0 (k v)) :
    StoresAt xs s0 (readThen s addr k) := by
  intro s' h
  obtain ⟨v, -, h⟩ := readThen_next h
  exact hk v s' h

theorem storesAt_writeThen {k : State → Out} (hs : StoredAt xs s0 s) (hmem : addr ∈ xs)
    (hk : ∀ s1, StoredAt xs s0 s1 → StoresAt xs s0 (k s1)) :
    StoresAt xs s0 (writeThen s addr v k) := by
  intro s' h
  obtain ⟨s1, h1, h⟩ := writeThen_next h
  exact hk s1 (hs.after_memWrite hmem h1) s' h

theorem storesAt_push16 {w : Word} {k : State → Out}
    (hk : ∀ s1, StoredAt (pushAddresses s) s s1 → StoresAt (pushAddresses s) s (k s1)) :
    StoresAt (pushAddresses s) s (push16 s w k) :=
  storesAt_writeThen .refl (by simp [pushAddresses]) fun _ h1 =>
    storesAt_writeThen h1 (by simp [pushAddresses]) fun _ h2 => hk _ (h2.congr rfl rfl)

theorem storesAt_pop16 {k : Word → State → Out}
    (hk : ∀ v s1, StoredAt xs s s1 → StoresAt xs s (k v s1)) : StoresAt xs s (pop16 s k) :=
  storesAt_readThen fun _ => storesAt_readThen fun _ => hk _ _ (StoredAt.refl.congr rfl rfl)

theorem storesAt_readOperand {o : Operand8} {k : Byte → Out} (hk : ∀ v, StoresAt xs s0 (k v)) :
    StoresAt xs s0 (readOperand s o k) := by
  cases o with
  | reg r => exact hk _
  | m => exact storesAt_readThen hk

/-- Only the operand M stores, at HL. -/
theorem storesAt_writeOperand {o : Operand8} (hs : StoredAt xs s0 s) (hmem : o = .m → s.hl ∈ xs) :
    StoresAt xs s0 (writeOperand s o v .next) := by
  cases o with
  | reg r => exact storesAt_next (hs.congr (s.setReg_cfg r v) (s.setReg_store r v))
  | m => exact storesAt_writeThen hs (hmem rfl) fun _ h => storesAt_next h

end Rules

/-! ## One rule per shared operation -/

section Operations

variable {xs : List Word} {s : State}

theorem storesAt_moveOp (dst src : Operand8) (hmem : dst = .m → s.hl ∈ xs) :
    StoresAt xs s (moveOp dst src s) :=
  storesAt_readOperand fun _ => storesAt_writeOperand .refl hmem

theorem storesAt_loadAccOp (addr : Word) : StoresAt xs s (loadAccOp addr s) :=
  storesAt_readThen fun _ => storesAt_keep rfl rfl

theorem storesAt_storeAccOp (addr : Word) : StoresAt [addr] s (storeAccOp addr s) :=
  storesAt_writeThen .refl (List.mem_singleton_self addr) fun _ h => storesAt_next h

theorem storesAt_shldOp (addr : Word) : StoresAt [addr, addr + 1] s (shldOp addr s) :=
  storesAt_writeThen .refl (by simp) fun _ h1 => storesAt_writeThen h1 (by simp) fun _ h2 =>
    storesAt_next h2

theorem storesAt_xthlOp : StoresAt [s.sp, s.sp + 1] s (xthlOp s) :=
  storesAt_readThen fun _ => storesAt_readThen fun _ =>
    storesAt_writeThen .refl (by simp) fun _ h1 => storesAt_writeThen h1 (by simp) fun _ h2 =>
      storesAt_next (h2.congr rfl rfl)

theorem storesAt_aluStep (op : AluOp) (v : Byte) : StoresAt xs s (.next (aluStep op v s)) := by
  cases op <;> exact storesAt_keep rfl rfl

theorem storesAt_aluOperandOp (op : AluOp) (o : Operand8) : StoresAt xs s (aluOperandOp op o s) :=
  storesAt_readOperand fun v => storesAt_aluStep op v

theorem storesAt_incrementOp (o : Operand8) (hmem : o = .m → s.hl ∈ xs) :
    StoresAt xs s (incrementOp o s) :=
  storesAt_readOperand fun _ => storesAt_writeOperand (StoredAt.refl.congr rfl rfl) hmem

theorem storesAt_decrementOp (o : Operand8) (hmem : o = .m → s.hl ∈ xs) :
    StoresAt xs s (decrementOp o s) :=
  storesAt_readOperand fun _ => storesAt_writeOperand (StoredAt.refl.congr rfl rfl) hmem

theorem storesAt_setPair (rp : RegPair) (w : Word) : StoresAt xs s (.next (s.setPair rp w)) :=
  storesAt_keep (s.setPair_cfg rp w) (s.setPair_store rp w)

theorem storesAt_callOp (w : Word) : StoresAt (pushAddresses s) s (callOp w s) :=
  storesAt_push16 fun _ h => storesAt_next (h.congr rfl rfl)

theorem storesAt_push (w : Word) : StoresAt (pushAddresses s) s (push16 s w .next) :=
  storesAt_push16 fun _ h => storesAt_next h

theorem storesAt_retOp : StoresAt xs s (retOp s) :=
  storesAt_pop16 fun _ _ h => storesAt_next (h.congr rfl rfl)

theorem storesAt_popOp (rp : RegPair) : StoresAt xs s (popOp rp s) :=
  storesAt_pop16 fun v s1 h => storesAt_next (h.congr (s1.setPair_cfg rp v) (s1.setPair_store rp v))

theorem storesAt_popPswOp : StoresAt xs s (popPswOp s) :=
  storesAt_pop16 fun _ _ h => storesAt_next (h.congr rfl rfl)

/-- An undocumented opcode stores where the documented instruction stores, if it runs as that. -/
theorem storesAt_undocumented (op : Byte) (size : Word) {o : Out}
    (h : s.cfg.undocPolicy = .aliased → StoresAt xs s o) :
    StoresAt xs s (undocumented op size o s) := by
  unfold undocumented
  split
  · exact storesAt_raise _
  · next hp => exact h hp

theorem storesAt_undocCall (op : Byte) (w : Word) :
    StoresAt (if s.cfg.undocPolicy = .aliased then pushAddresses s else []) s (undocCall op w s) :=
  storesAt_undocumented op 3 fun hp => by rw [if_pos hp]; exact storesAt_callOp w

theorem storesAt_inOp (p : Byte) : StoresAt xs s (inOp p s) := by
  suffices h : StoredAt xs s (portIn s p).2 from storesAt_next (h.congr rfl rfl)
  unfold portIn
  split
  · exact .refl
  · split
    · exact .refl
    · exact StoredAt.refl.congr rfl rfl

theorem storesAt_outOp (p : Byte) : StoresAt xs s (outOp p s) := by
  refine storesAt_next ?_
  unfold portOut
  split
  · exact StoredAt.refl.congr rfl rfl
  · split <;> exact StoredAt.refl.congr rfl rfl

theorem storesAt_eiOp : StoresAt xs s (eiOp s) := by
  refine storesAt_next ?_
  split <;> exact StoredAt.refl.congr rfl rfl

end Operations

/-! ## Every instruction -/

theorem storeAddresses_movToM (rs : Reg8) (s : State) : storeAddresses (.movToM rs) s = [s.hl] := by
  cases rs <;> rfl

theorem storeAddresses_callIf (cc : Cond) (w : Word) (s : State) :
    storeAddresses (.callIf cc w) s = if condHolds s.flags cc then pushAddresses s else [] := by
  cases cc <;> rfl

theorem storeAddresses_rst (n : Fin 8) (s : State) : storeAddresses (.rst n) s = pushAddresses s := by
  match n with
  | 0 | 1 | 2 | 3 | 4 | 5 | 6 | 7 => rfl

/-- An instruction that completes has stored at its own addresses alone. -/
theorem exec_storesAt (i : Instr) (s : State) : StoresAt (storeAddresses i s) s (exec i s) := by
  have hM : s.hl ∈ [s.hl] := List.mem_singleton_self s.hl
  revert i
  apply instr_forms
  case movReg =>
    intro rd rs
    rw [exec_movReg]
    exact storesAt_moveOp _ _ nofun
  case movFromM =>
    intro rd
    rw [exec_movFromM]
    exact storesAt_moveOp _ _ nofun
  case movToM =>
    intro rs
    rw [exec_movToM, storeAddresses_movToM]
    exact storesAt_moveOp _ _ fun _ => hM
  case mviReg =>
    intro rd v
    rw [exec_mviReg]
    exact storesAt_writeOperand .refl nofun
  case lxi =>
    intro rp w
    rw [exec_lxi]
    exact storesAt_setPair rp w
  case aluReg =>
    intro op rs
    rw [exec_aluReg]
    exact storesAt_aluOperandOp op _
  case aluM =>
    intro op
    rw [exec_aluM]
    exact storesAt_aluOperandOp op _
  case aluImm =>
    intro op v
    rw [exec_aluImm]
    exact storesAt_aluStep op v
  case inr =>
    intro rd
    rw [exec_inr]
    exact storesAt_incrementOp _ nofun
  case dcr =>
    intro rd
    rw [exec_dcr]
    exact storesAt_decrementOp _ nofun
  case inx =>
    intro rp
    rw [exec_inx]
    exact storesAt_setPair rp _
  case dcx =>
    intro rp
    rw [exec_dcx]
    exact storesAt_setPair rp _
  case dad =>
    intro rp
    rw [exec_dad]
    exact storesAt_keep rfl rfl
  case jumpIf =>
    intro cc w
    rw [exec_jumpIf, jumpIfOp]
    split <;> exact storesAt_keep rfl rfl
  case callIf =>
    intro cc w
    rw [exec_callIf, storeAddresses_callIf, callIfOp]
    split
    · exact storesAt_callOp w
    · exact storesAt_keep rfl rfl
  case returnIf =>
    intro cc
    rw [exec_returnIf, returnIfOp]
    split
    · exact storesAt_retOp
    · exact storesAt_keep rfl rfl
  case rst =>
    intro n
    rw [exec_rst, storeAddresses_rst]
    exact storesAt_callOp _
  case staxB | staxD => exact storesAt_storeAccOp _
  case ldaxB | ldaxD => exact storesAt_loadAccOp _
  case sta => exact fun w => storesAt_storeAccOp w
  case lda => exact fun w => storesAt_loadAccOp w
  case shld => exact fun w => storesAt_shldOp w
  case lhld =>
    exact fun w => storesAt_readThen fun _ => storesAt_readThen fun _ => storesAt_keep rfl rfl
  case mviM => exact fun v => storesAt_writeOperand (o := .m) .refl fun _ => hM
  case inrM => exact storesAt_incrementOp .m fun _ => hM
  case dcrM => exact storesAt_decrementOp .m fun _ => hM
  case nop | xchg | rlc | rrc | ral | rar | daa | cma | stc | cmc | pchl | sphl | di | hlt =>
    exact storesAt_keep rfl rfl
  case jmp => exact fun w => storesAt_keep rfl rfl
  case call => exact fun w => storesAt_callOp w
  case ret => exact storesAt_retOp
  case pushB | pushD | pushH | pushPSW => exact storesAt_push _
  case popB | popD | popH => exact storesAt_popOp _
  case popPSW => exact storesAt_popPswOp
  case xthl => exact storesAt_xthlOp
  case inPort => exact fun p => storesAt_inOp p
  case outPort => exact fun p => storesAt_outOp p
  case ei => exact storesAt_eiOp
  case undoc08 | undoc10 | undoc18 | undoc20 | undoc28 | undoc30 | undoc38 =>
    exact storesAt_undocumented _ _ fun _ => storesAt_keep rfl rfl
  case undocCB => exact fun w => storesAt_undocumented _ _ fun _ => storesAt_keep rfl rfl
  case undocD9 => exact storesAt_undocumented _ _ fun _ => storesAt_retOp
  case undocDD => exact fun w => storesAt_undocCall _ w
  case undocED => exact fun w => storesAt_undocCall _ w
  case undocFD => exact fun w => storesAt_undocCall _ w

/-- Settles O18: an address away from the bytes stored reads as before. -/
theorem memoryFrame : Obligations.MemoryFrame := by
  intro i s s' h addr haddr
  exact (exec_storesAt i s s' h).memRead_eq haddr

end Sys2Proof.Machine
end

section
/-! Loads, stores and where they stop (spec 20_memory.md R80 to R83, 40_data_transfer.md R141 to R151). -/

namespace Sys2Proof.Machine

open Sys2Proof.Claims

/-! ## An access that faults, and a write that raises nothing -/

section Outcomes

variable {α : Type} {s s' : State} {addr : Word} {v : Byte} {r : FaultRecord}

theorem memRead_error (h : readFault s addr r) : memRead s addr = .error r := by
  obtain ⟨hnone, rfl⟩ | ⟨off, hsome, hsize, rfl⟩ := h
  · simp only [memRead, hnone]
  · simp only [memRead, hsome, if_neg (Nat.not_lt.mpr hsize)]

theorem memWrite_error (h : writeFault s addr r) : memWrite s addr v = .error r := by
  obtain ⟨hnone, rfl⟩ | ⟨hrom, hpolicy, rfl⟩ | ⟨off, hfound, hsize, rfl⟩ := h
  · simp only [memWrite, hnone]
  · simp only [memWrite, hrom, hpolicy]
  · simp only [memWrite, hfound, if_neg (Nat.not_lt.mpr hsize)]

theorem memWrite_leaves (h : writeLeaves s addr v s') : memWrite s addr v = .ok s' := by
  obtain ⟨off, ⟨hfound, hlt⟩, rfl⟩ | ⟨hrom, hpolicy, rfl⟩ := h
  · exact memWrite_ram hfound hlt
  · simp only [memWrite, hrom, hpolicy]

theorem writeLeaves_of_ramAt {off : Nat} (h : ramAt s addr off) :
    writeLeaves s addr v { s with store := Memory.write s.store off v } :=
  .inl ⟨off, h, rfl⟩

theorem writeLeaves_cfg (h : writeLeaves s addr v s') : s'.cfg = s.cfg := by
  obtain ⟨off, -, rfl⟩ | ⟨-, -, rfl⟩ := h <;> rfl

/-- A write to RAM after another write. -/
theorem writeLeaves_after {addr2 : Word} {v2 : Byte} {off : Nat} (h : writeLeaves s addr v s')
    (hram : ramAt s addr2 off) :
    writeLeaves s' addr2 v2 { s' with store := Memory.write s'.store off v2 } := by
  refine writeLeaves_of_ramAt ?_
  rwa [ramAt, writeLeaves_cfg h]

/-- Whether a write faults depends on the parameters alone. -/
theorem writeFault_congr (hcfg : s'.cfg = s.cfg) (h : writeFault s addr r) : writeFault s' addr r := by
  rwa [writeFault, hcfg]

theorem readThen_stops {k : Byte → Host.Outcome α Fault Refusal} (h : readFault s addr r) :
    readThen s addr k = .fault (r.toFault { s with fault := some r }) :=
  readThen_error (memRead_error h)

theorem writeThen_stops {k : State → Host.Outcome α Fault Refusal} (h : writeFault s addr r) :
    writeThen s addr v k = .fault (r.toFault { s with fault := some r }) :=
  writeThen_error (memWrite_error h)

/-- Two reads, of which the second faults: nothing has changed. -/
theorem readThen_readThen_stops {addr2 : Word} {k : Byte → Byte → Host.Outcome α Fault Refusal}
    (h1 : memRead s addr = .ok v) (h2 : readFault s addr2 r) :
    (readThen s addr fun v1 => readThen s addr2 fun v2 => k v1 v2) =
      .fault (r.toFault { s with fault := some r }) := by
  rw [readThen_ok h1, readThen_stops h2]

theorem writeThen_leaves {k : State → Host.Outcome α Fault Refusal} (h : writeLeaves s addr v s') :
    writeThen s addr v k = k s' :=
  writeThen_ok (memWrite_leaves h)

/-- Two writes, of which the second faults: the first stays as it was done. -/
theorem writeThen_writeThen_stops {addr2 : Word} {v2 : Byte}
    {k : State → Host.Outcome α Fault Refusal} (h1 : writeLeaves s addr v s')
    (h2 : writeFault s addr2 r) :
    (writeThen s addr v fun s1 => writeThen s1 addr2 v2 k) =
      .fault (r.toFault { s' with fault := some r }) := by
  rw [writeThen_leaves h1, writeThen_stops (writeFault_congr (writeLeaves_cfg h1) h2)]

end Outcomes

/-! ## The forms that load and the forms that store -/

section Forms

variable {s : State} {addr : Word} {v lo hi : Byte} {i : Instr}

theorem setPair_hl_joinBytes : s.setPair .hl (joinBytes hi lo) = { s with h := hi, l := lo } := by
  simp only [State.setPair, highByte_joinBytes, lowByte_joinBytes]
  rfl

/-- SHLD: L at the address, then H at the next (R149). -/
theorem exec_shld : exec (.shld addr) s =
    writeThen s addr s.l fun s1 => writeThen s1 (addr + 1) s.h .next := by
  have hlow : lowByte s.hl = s.l := lowByte_joinBytes s.h s.l
  have hhigh : highByte s.hl = s.h := highByte_joinBytes s.h s.l
  show writeWordThen s addr s.hl .next = _
  rw [writeWordThen, hlow, hhigh]

/-- A load starts with the read of its address. -/
theorem exec_loadForm (h : loadForm s addr i) : ∃ k, exec i s = readThen s addr k := by
  obtain ⟨rfl, ⟨rd, rfl⟩ | ⟨op, rfl⟩ | rfl | rfl⟩ | rfl | ⟨rfl, rfl⟩ | ⟨rfl, rfl⟩ | rfl := h
  · exact ⟨_, exec_movFromM s rd⟩
  · exact ⟨_, exec_aluM s op⟩
  all_goals exact ⟨_, rfl⟩

/-- A store is one write. -/
theorem exec_storeForm (h : storeForm s addr v i) : exec i s = writeThen s addr v .next := by
  obtain ⟨rfl, ⟨rs, rfl, rfl⟩ | rfl⟩ | ⟨rfl, rfl | ⟨rfl, rfl⟩ | ⟨rfl, rfl⟩⟩ := h
  · exact exec_movToM s rs
  all_goals rfl

/-- A store to a byte of RAM. -/
theorem exec_storeForm_ram {off : Nat} (h : storeForm s addr v i) (hram : ramAt s addr off) :
    exec i s = .next { s with store := Memory.write s.store off v } := by
  rw [exec_storeForm h, writeThen_leaves (writeLeaves_of_ramAt hram)]

end Forms

/-- Settles O23: each load is its reads and the write of its registers. -/
theorem loadResult : Obligations.LoadResult := by
  intro rd w s v
  refine ⟨fun h => (exec_movFromM s rd).trans (readThen_ok h), fun h => readThen_ok h,
    fun h => readThen_ok h, fun h => readThen_ok h, fun lo hi hlo hhi => ?_⟩
  show lhldOp w s = _
  rw [lhldOp, readWordThen, readThen_ok hlo, readThen_ok hhi, setPair_hl_joinBytes]

/-- Settles O24: each one-byte store is a store form, SHLD two writes. -/
theorem storeResult : Obligations.StoreResult := by
  intro r v w s off
  refine ⟨fun h => ⟨exec_storeForm_ram (.inl ⟨rfl, .inl ⟨r, rfl, rfl⟩⟩) h,
      exec_storeForm_ram (.inl ⟨rfl, .inr rfl⟩) h⟩,
    fun h => exec_storeForm_ram (.inr ⟨rfl, .inl rfl⟩) h,
    fun h => exec_storeForm_ram (.inr ⟨rfl, .inr (.inl ⟨rfl, rfl⟩)⟩) h,
    fun h => exec_storeForm_ram (.inr ⟨rfl, .inr (.inr ⟨rfl, rfl⟩)⟩) h,
    fun loOff hiOff hlo hhi => ?_⟩
  have h1 := writeLeaves_of_ramAt (v := s.l) hlo
  rw [exec_shld, writeThen_leaves h1, writeThen_leaves (writeLeaves_after h1 hhi)]

/-- Settles O42: a load starts with its read, a store is its writes. -/
theorem loadStoreFaults : Obligations.LoadStoreFaults := by
  intro s i addr v r
  refine ⟨fun hform hfault => ?_, fun lo hlo hfault => readThen_readThen_stops hlo hfault,
    fun hform hfault => ?_, fun hform s1 h1 => ?_, fun hfault => ?_, fun s1 h1 =>
      ⟨fun hfault => ?_, fun s2 h2 => ?_⟩⟩
  · obtain ⟨k, hk⟩ := exec_loadForm hform
    rw [hk, readThen_stops hfault]
  · rw [exec_storeForm hform, writeThen_stops hfault]
  · rw [exec_storeForm hform, writeThen_leaves h1]
  · rw [exec_shld, writeThen_stops hfault]
  · rw [exec_shld, writeThen_writeThen_stops h1 hfault]
  · rw [exec_shld, writeThen_leaves h1, writeThen_leaves h2]

end Sys2Proof.Machine
end

section
/-! The stack (spec 20_memory.md R84, R85, 43_branch.md R252 to R256, 44_stack_io_machine.md R280 to R284,
R293): what pushes, what pops, and where they stop. -/

namespace Sys2Proof.Machine

open Sys2Proof.Claims

/-! ## A push and a pop -/

section PushPop

variable {α : Type} {s s' : State} {w : Word} {lo hi : Byte} {r : FaultRecord} {hiOff loOff : Nat}

theorem push16_leaves {k : State → Host.Outcome α Fault Refusal} (h : pushLeaves s w s') :
    push16 s w k = k s' := by
  obtain ⟨s1, s2, h1, h2, rfl⟩ := h
  exact push16_ok (memWrite_leaves h1) (memWrite_leaves h2)

theorem pop16_ready {k : Word → State → Host.Outcome α Fault Refusal} (h : popReady s lo hi) :
    pop16 s k = k (joinBytes hi lo) { s with sp := s.sp + 2 } :=
  pop16_ok h.1 h.2

/-- The bytes of a pushed word are on the stack: the next pop gives it back. -/
theorem popReady_of_pushed (hm : Memory.wf s.store) (h : pushReady s hiOff loOff)
    (hne : hiOff ≠ loOff) (hcfg : s'.cfg = s.cfg) (hsp : s'.sp = s.sp - 2)
    (hstore : s'.store = pushedStore s hiOff loOff w) : popReady s' (lowByte w) (highByte w) := by
  obtain ⟨⟨hhi, hhi'⟩, ⟨hlo, hlo'⟩⟩ := h
  have hm1 : Memory.wf (Memory.write s.store hiOff (highByte w)) := Memory.write_wf _ _ hm
  have hnext : s'.sp + 1 = s.sp - 1 := by rw [hsp]; bv_omega
  constructor
  · have hread : resolveRead s'.cfg s'.sp = some loOff := by
      rw [hcfg, hsp, resolveRead_of_found hlo]
    rw [memRead_found hread (hcfg ▸ hlo'), hstore, pushedStore, Memory.read_write_same _ _ _ hm1]
  · have hread : resolveRead s'.cfg (s'.sp + 1) = some hiOff := by
      rw [hcfg, hnext, resolveRead_of_found hhi]
    rw [memRead_found hread (hcfg ▸ hhi'), hstore, pushedStore, Memory.read_write_of_ne _ _ _ _ hne,
      Memory.read_write_same _ _ _ hm]

theorem push16_stops_first {k : State → Host.Outcome α Fault Refusal}
    (h : writeFault s (s.sp - 1) r) :
    push16 s w k = .fault (r.toFault { s with fault := some r }) :=
  writeThen_stops h

theorem push16_stops_second {k : State → Host.Outcome α Fault Refusal}
    (h1 : writeLeaves s (s.sp - 1) (highByte w) s') (h2 : writeFault s (s.sp - 2) r) :
    push16 s w k = .fault (r.toFault { s' with fault := some r }) :=
  writeThen_writeThen_stops h1 h2

theorem pop16_stops_first {k : Word → State → Host.Outcome α Fault Refusal} (h : readFault s s.sp r) :
    pop16 s k = .fault (r.toFault { s with fault := some r }) :=
  readThen_stops h

theorem pop16_stops_second {k : Word → State → Host.Outcome α Fault Refusal}
    (h1 : memRead s s.sp = .ok lo) (h2 : readFault s (s.sp + 1) r) :
    pop16 s k = .fault (r.toFault { s with fault := some r }) :=
  readThen_readThen_stops h1 h2

end PushPop

/-! ## The forms that push and the forms that pop -/

section Forms

variable {s s' : State} {i : Instr} {v w : Word} {lo hi : Byte}

theorem callOp_leaves (h : pushLeaves s s.pc s') : callOp w s = .next { s' with pc := w } :=
  push16_leaves h

theorem retOp_ready (h : popReady s lo hi) :
    retOp s = .next { s with sp := s.sp + 2, pc := hi ++ lo } :=
  pop16_ready h

theorem exec_callIf_taken {cc : Cond} (h : condHolds s.flags cc = true) :
    exec (.callIf cc w) s = callOp w s := by
  rw [exec_callIf, callIfOp, if_pos h]

theorem exec_callIf_not_taken {cc : Cond} (h : condHolds s.flags cc = false) :
    exec (.callIf cc w) s = .next s := by
  rw [exec_callIf, callIfOp, if_neg (ne_true_of_eq_false h)]

theorem exec_returnIf_taken {cc : Cond} (h : condHolds s.flags cc = true) :
    exec (.returnIf cc) s = retOp s := by
  rw [exec_returnIf, returnIfOp, if_pos h]

theorem exec_returnIf_not_taken {cc : Cond} (h : condHolds s.flags cc = false) :
    exec (.returnIf cc) s = .next s := by
  rw [exec_returnIf, returnIfOp, if_neg (ne_true_of_eq_false h)]

theorem restartTarget_ofNat (n : Fin 8) :
    restartTarget (BitVec.ofNat 3 n.val) = BitVec.ofNat 16 (8 * n.val) := by
  rw [restartTarget, BitVec.toNat_ofNat, Nat.mod_eq_of_lt n.isLt]

theorem undocumented_fault {op : Byte} {size : Word} {o : Out} (h : s.cfg.undocPolicy = .fault) :
    undocumented op size o s = raise s (.unimplementedOpcode op (s.pc - size)) := by
  simp only [undocumented, h]

theorem undocumented_aliased {op : Byte} {size : Word} {o : Out} (h : s.cfg.undocPolicy = .aliased) :
    undocumented op size o s = o := by
  simp only [undocumented, h]

theorem exec_undocD9 (h : s.cfg.undocPolicy = .aliased) : exec .undocD9 s = retOp s :=
  undocumented_aliased h

/-- Where the undocumented opcodes run, three of them run as CALL. -/
theorem exec_undocCalls (h : s.cfg.undocPolicy = .aliased)
    (hi : i ∈ [Instr.undocDD w, .undocED w, .undocFD w]) : exec i s = callOp w s := by
  simp only [List.mem_cons, List.not_mem_nil, or_false] at hi
  obtain rfl | rfl | rfl := hi <;> exact undocumented_aliased h

theorem callOp_pushes (w : Word) (s : State) : ∃ k, callOp w s = push16 s s.pc k :=
  ⟨fun s1 => .next (s1.setPc w), rfl⟩

theorem retOp_pops (s : State) : ∃ k, retOp s = pop16 s k :=
  ⟨fun v s1 => .next (s1.setPc v), rfl⟩

theorem popOp_pops (rp : RegPair) (s : State) : ∃ k, popOp rp s = pop16 s k :=
  ⟨fun v s1 => .next (s1.setPair rp v), rfl⟩

theorem popPswOp_pops (s : State) : ∃ k, popPswOp s = pop16 s k :=
  ⟨fun v s1 => .next ((s1.setFlags (unpackFlags (lowByte v))).setReg .a (highByte v)), rfl⟩

/-- Every form that pushes is a push of its word, and something after it. -/
theorem exec_pushForm (h : pushForm s v i) : ∃ k, exec i s = push16 s v k := by
  obtain ⟨rfl, rfl⟩ | ⟨rfl, rfl⟩ | ⟨rfl, rfl⟩ | ⟨rfl, rfl⟩ | ⟨rfl, hcall⟩ := h
  · exact ⟨_, rfl⟩
  · exact ⟨_, rfl⟩
  · exact ⟨_, rfl⟩
  · exact ⟨_, rfl⟩
  · obtain ⟨w, rfl⟩ | ⟨n, rfl⟩ | ⟨cc, w, rfl, hcc⟩ | ⟨halias, w, hi⟩ := hcall
    · exact callOp_pushes w s
    · rw [exec_rst]
      exact callOp_pushes _ s
    · rw [exec_callIf_taken hcc]
      exact callOp_pushes w s
    · rw [exec_undocCalls halias hi]
      exact callOp_pushes w s

/-- Every form that pops is a pop, and something after it. -/
theorem exec_popForm (h : popForm s i) : ∃ k, exec i s = pop16 s k := by
  obtain hi | ⟨cc, rfl, hcc⟩ | ⟨halias, rfl⟩ := h
  · simp only [List.mem_cons, List.not_mem_nil, or_false] at hi
    obtain rfl | rfl | rfl | rfl | rfl := hi
    · exact popOp_pops .bc s
    · exact popOp_pops .de s
    · exact popOp_pops .hl s
    · exact popPswOp_pops s
    · exact retOp_pops s
  · rw [exec_returnIf_taken hcc]
    exact retOp_pops s
  · rw [exec_undocD9 halias]
    exact retOp_pops s

end Forms

/-- Settles O37: CALL, Ccc taken and RST are one operation, the push of PC and the jump. -/
theorem callResult : Obligations.CallResult := by
  intro cc n w s
  refine ⟨exec_callIf_not_taken, fun s1 h => ⟨callOp_leaves h, fun hcc => ?_, ?_⟩⟩
  · rw [exec_callIf_taken hcc, callOp_leaves h]
  · rw [exec_rst, rstOp, callOp_leaves h, restartTarget_ofNat]

/-- Settles O38: RET and Rcc taken are one operation, the pop of PC. -/
theorem returnResult : Obligations.ReturnResult := by
  intro cc s
  refine ⟨exec_returnIf_not_taken, fun lo hi h => ⟨retOp_ready h, fun hcc => ?_⟩⟩
  rw [exec_returnIf_taken hcc, retOp_ready h]

/-! ## PUSH, POP and XTHL -/

theorem popOp_ready {s : State} {lo hi : Byte} (rp : RegPair) (h : popReady s lo hi) :
    popOp rp s = .next ({ s with sp := s.sp + 2 }.setPair rp (joinBytes hi lo)) :=
  pop16_ready h

theorem popPswOp_ready {s : State} {lo hi : Byte} (h : popReady s lo hi) :
    popPswOp s = .next { s with a := hi, sp := s.sp + 2, flags := unpackFlags lo } := by
  rw [popPswOp, pop16_ready h, highByte_joinBytes, lowByte_joinBytes]
  rfl

/-- Settles O39: a PUSH is `push16` alone, a POP writes the popped bytes to its pair. -/
theorem stackTransferResult : Obligations.StackTransferResult := by
  intro s
  refine ⟨fun s1 => ⟨push16_leaves, push16_leaves, push16_leaves, push16_leaves⟩,
    fun lo hi h => ⟨(popOp_ready .bc h).trans ?_, (popOp_ready .de h).trans ?_,
      (popOp_ready .hl h).trans ?_, popPswOp_ready h⟩⟩
  all_goals
    rw [State.setPair, highByte_joinBytes, lowByte_joinBytes]
    rfl

/-- XTHL with both bytes readable is its two writes and HL (R284). -/
theorem exec_xthl_ready {s : State} {lo hi : Byte} (h : popReady s lo hi) :
    exec .xthl s = writeThen s s.sp s.l fun s1 => writeThen s1 (s.sp + 1) s.h fun s2 =>
      .next { s2 with h := hi, l := lo } := by
  show xthlOp s = _
  rw [xthlOp, readThen_ok h.1, readThen_ok h.2]
  rfl

/-- Settles O40: the two writes after the two reads. -/
theorem exchangeStackResult : Obligations.ExchangeStackResult := by
  intro s s1 s2 lo hi h h1 h2
  rw [exec_xthl_ready h, writeThen_leaves h1, writeThen_leaves h2]

/-- Settles O41: a form that pushes or pops stops where its push or its pop stops. -/
theorem stackFaults : Obligations.StackFaults := by
  intro s i v r
  refine ⟨fun hform hfault => ?_, fun hform s1 h1 hfault => ?_, fun hform hfault => ?_,
    fun hform lo hlo hfault => ?_, fun hfault => readThen_stops hfault,
    fun lo hlo hfault => readThen_readThen_stops hlo hfault,
    fun lo hi h => ⟨fun hfault => ?_, fun s1 h1 hfault => ?_⟩⟩
  · obtain ⟨k, hk⟩ := exec_pushForm hform
    rw [hk, push16_stops_first hfault]
  · obtain ⟨k, hk⟩ := exec_pushForm hform
    rw [hk, push16_stops_second h1 hfault]
  · obtain ⟨k, hk⟩ := exec_popForm hform
    rw [hk, pop16_stops_first hfault]
  · obtain ⟨k, hk⟩ := exec_popForm hform
    rw [hk, pop16_stops_second hlo hfault]
  · rw [exec_xthl_ready h, writeThen_stops hfault]
  · rw [exec_xthl_ready h, writeThen_writeThen_stops h1 hfault]

/-! ## Round trips -/

theorem setPair_pair_self (s : State) (rp : RegPair) : s.setPair rp (s.pair rp) = s := by
  cases rp with
  | sp => rfl
  | _ => simp only [State.setPair, State.pair, highByte_joinBytes, lowByte_joinBytes]; rfl

/-- The state after a push of `v` to RAM. -/
def State.pushed (s : State) (hiOff loOff : Nat) (v : Word) : State :=
  (s.setStore (pushedStore s hiOff loOff v)).setSp (s.sp - 2)

section RoundTrips

variable {s : State} {hiOff loOff : Nat}

theorem push16_pushed (h : pushReady s hiOff loOff) (v : Word) (k : State → Out) :
    push16 s v k = k (s.pushed hiOff loOff v) := by
  obtain ⟨⟨hhi, hhi'⟩, ⟨hlo, hlo'⟩⟩ := h
  exact push16_ram hhi hhi' hlo hlo'

/-- A pop after a push, with any PC: the word pushed, and SP as it was. -/
theorem pop16_pushed (hm : Memory.wf s.store) (h : pushReady s hiOff loOff) (hne : hiOff ≠ loOff)
    (v pc : Word) (k : Word → State → Out) :
    pop16 ((s.pushed hiOff loOff v).setPc pc) k =
      k v ((s.setStore (pushedStore s hiOff loOff v)).setPc pc) := by
  have hready : popReady ((s.pushed hiOff loOff v).setPc pc) (lowByte v) (highByte v) :=
    popReady_of_pushed hm h hne rfl rfl rfl
  have hsp : s.sp - 2 + 2 = s.sp := by bv_omega
  have hback : ((s.pushed hiOff loOff v).setPc pc).setSp (s.sp - 2 + 2) =
      (s.setStore (pushedStore s hiOff loOff v)).setPc pc := by
    rw [hsp]
    rfl
  rw [pop16_ready hready, joinBytes_high_low]
  exact congrArg (k v) hback

theorem popOp_pushed (hm : Memory.wf s.store) (h : pushReady s hiOff loOff) (hne : hiOff ≠ loOff)
    (rp : RegPair) : popOp rp (s.pushed hiOff loOff (s.pair rp)) =
      .next (s.setStore (pushedStore s hiOff loOff (s.pair rp))) := by
  have hself := setPair_pair_self (s.setStore (pushedStore s hiOff loOff (s.pair rp))) rp
  rw [State.setStore_pair] at hself
  exact (pop16_pushed hm h hne (s.pair rp) s.pc _).trans (congrArg Host.Outcome.next hself)

theorem popPswOp_pushed (hm : Memory.wf s.store) (h : pushReady s hiOff loOff) (hne : hiOff ≠ loOff) :
    popPswOp (s.pushed hiOff loOff (joinBytes s.a (packFlags s.flags))) =
      .next (s.setStore (pushedStore s hiOff loOff (joinBytes s.a (packFlags s.flags)))) := by
  obtain ⟨-, hflags⟩ := flagByteLayout.1 s.flags
  refine (pop16_pushed hm h hne _ s.pc _).trans ?_
  rw [highByte_joinBytes, lowByte_joinBytes, hflags]
  rfl

end RoundTrips

/-- Settles O43: the pop gives back the word, and the pair or PC takes it. -/
theorem stackRoundTrips : Obligations.StackRoundTrips := by
  intro s w pc hiOff loOff hm h hne
  have hpush (v : Word) : push16 s v .next = .next (s.pushed hiOff loOff v) := push16_pushed h v _
  have hcall : callOp w s = .next ((s.pushed hiOff loOff s.pc).setPc w) := push16_pushed h s.pc _
  have hret : retOp ((s.pushed hiOff loOff s.pc).setPc pc) =
      .next (s.setStore (pushedStore s hiOff loOff s.pc)) := pop16_pushed hm h hne s.pc pc _
  refine ⟨fun p hp => ?_, _, hcall, hret⟩
  simp only [List.mem_cons, List.not_mem_nil, or_false] at hp
  obtain rfl | rfl | rfl | rfl := hp
  · exact ⟨_, hpush _, rfl, popOp_pushed hm h hne .bc⟩
  · exact ⟨_, hpush _, rfl, popOp_pushed hm h hne .de⟩
  · exact ⟨_, hpush _, rfl, popOp_pushed hm h hne .hl⟩
  · exact ⟨_, hpush _, rfl, popPswOp_pushed hm h hne⟩

/-! ## The undocumented opcodes -/

/-- The twelve undocumented opcodes (R293). -/
def undocForms (w : Word) : List Instr :=
  [.undoc08, .undoc10, .undoc18, .undoc20, .undoc28, .undoc30, .undoc38, .undocCB w, .undocD9,
    .undocDD w, .undocED w, .undocFD w]

/-- Each of the twelve is the policy's choice with its own opcode and size. -/
theorem exec_undocForms {w : Word} {i : Instr} (hi : i ∈ undocForms w) (s : State) :
    ∃ o, exec i s = undocumented i.opcode (BitVec.ofNat 16 i.size) o s := by
  simp only [undocForms, List.mem_cons, List.not_mem_nil, or_false] at hi
  obtain rfl | rfl | rfl | rfl | rfl | rfl | rfl | rfl | rfl | rfl | rfl | rfl := hi
  iterate 7 exact ⟨.next s, rfl⟩
  · exact ⟨jmpOp w s, rfl⟩
  · exact ⟨retOp s, rfl⟩
  iterate 3 exact ⟨callOp w s, rfl⟩

/-- Settles O47: the policy's choice, and the documented instruction each runs as. -/
theorem undocumentedOpcodes : Obligations.UndocumentedOpcodes := by
  intro w s
  refine ⟨fun hfault i hi => ?_, fun halias => ⟨fun i hi => ?_, undocumented_aliased halias,
    fun lo hi h => ?_, fun s1 h i hi => ?_⟩⟩
  · obtain ⟨o, ho⟩ := exec_undocForms (w := w) hi s
    rw [ho, undocumented_fault hfault]
    rfl
  · simp only [List.mem_cons, List.not_mem_nil, or_false] at hi
    obtain rfl | rfl | rfl | rfl | rfl | rfl | rfl := hi <;> exact undocumented_aliased halias
  · rw [exec_undocD9 halias, retOp_ready h]
  · rw [exec_undocCalls halias hi, callOp_leaves h]

end Sys2Proof.Machine
end

section
/-! The ports (spec 20_memory.md R95, R96, 60_exceptions.md R330 to R332). -/

namespace Sys2Proof.Machine

/-- R332: the window of the shift register as a number. -/
theorem shiftResult_eq (s : State) :
    shiftResult s = BitVec.ofNat 8 (s.shift.toNat / 2 ^ (8 - s.shiftOff.toNat)) := by
  apply BitVec.eq_of_toNat_eq
  simp [shiftResult, Nat.shiftRight_eq_div_pow]

/-- R330: the old high byte in the low half, the new byte in the high half. -/
theorem shiftFill_eq (s : State) (v : Byte) :
    shiftFill s v = { s with shift := BitVec.ofNat 16 (s.shift.toNat / 256 + v.toNat * 256) } := by
  have hhigh : s.shift.toNat / 256 < 2 ^ 8 := by omega
  have hshift : (s.shift >>> 8) ||| (v.setWidth 16 <<< 8) =
      BitVec.ofNat 16 (s.shift.toNat / 256 + v.toNat * 256) := by
    apply BitVec.eq_of_toNat_eq
    rw [Nat.add_comm, ← Nat.shiftLeft_eq v.toNat 8, Nat.shiftLeft_add_eq_or_of_lt hhigh, Nat.lor_comm]
    simp only [BitVec.toNat_or, BitVec.toNat_ushiftRight, BitVec.toNat_shiftLeft, BitVec.toNat_setWidth,
      BitVec.toNat_ofNat, Nat.shiftRight_eq_div_pow, Nat.or_mod_two_pow]
    rw [Nat.mod_eq_of_lt (show v.toNat < 2 ^ 16 by omega),
      Nat.mod_eq_of_lt (show s.shift.toNat / 256 < 2 ^ 16 by omega)]
  rw [shiftFill, hshift]
  rfl

/-- R331: the low three bits as a number. -/
theorem shiftSetOffset_eq (s : State) (v : Byte) :
    shiftSetOffset s v = { s with shiftOff := BitVec.ofNat 3 (v.toNat % 8) } := by
  have hoff : v.setWidth 3 = BitVec.ofNat 3 (v.toNat % 8) := by
    apply BitVec.eq_of_toNat_eq
    simp
  rw [shiftSetOffset, hoff]
  rfl

section Ports

variable {s : State} {p v : Byte}

theorem portIn_resultPort (h : p = s.cfg.resultPort) : portIn s p = (shiftResult s, s) := if_pos h

theorem portIn_absent (h : p ≠ s.cfg.resultPort) (hhandler : s.cfg.inputHandler = .absent) :
    portIn s p = (0, s) := by
  rw [portIn, if_neg h, hhandler]

theorem portIn_oracle (h : p ≠ s.cfg.resultPort) (hhandler : s.cfg.inputHandler = .oracle) :
    portIn s p = (Config.inputOracle s.inputDraws p, s.setInputDraws (s.inputDraws + 1)) := by
  rw [portIn, if_neg h, hhandler]

theorem portOut_fillPort (h : p = s.cfg.fillPort) : portOut s p v = shiftFill s v := if_pos h

theorem portOut_offsetPort (hfill : p ≠ s.cfg.fillPort) (h : p = s.cfg.offsetPort) :
    portOut s p v = shiftSetOffset s v := by
  rw [portOut, if_neg hfill, if_pos h]

theorem portOut_other (hfill : p ≠ s.cfg.fillPort) (hoffset : p ≠ s.cfg.offsetPort) :
    portOut s p v = s.setOutputs (s.outputs ++ [{ port := p, value := v }]) := by
  rw [portOut, if_neg hfill, if_neg hoffset]

end Ports

/-- Settles O44: A takes the byte of the port's branch, and a draw is used up where one is made. -/
theorem inResult : Obligations.InResult := by
  intro p s
  have hexec : exec (.inPort p) s = .next ((portIn s p).2.setReg .a (portIn s p).1) := rfl
  refine ⟨fun hp => ?_, fun hp hhandler => ?_, fun hp hhandler => ?_⟩
  · rw [hexec, portIn_resultPort hp, shiftResult_eq]
    rfl
  · rw [hexec, portIn_absent hp hhandler]
    rfl
  · rw [hexec, portIn_oracle hp hhandler]
    rfl

/-- Settles O45: the branch of the port, the fill port first. -/
theorem outResult : Obligations.OutResult := by
  intro p s
  have hexec : exec (.outPort p) s = .next (portOut s p s.a) := rfl
  refine ⟨fun hfill => ?_, fun hfill hoffset => ?_, fun hfill hoffset => ?_⟩
  · rw [hexec, portOut_fillPort hfill, shiftFill_eq]
  · rw [hexec, portOut_offsetPort hfill hoffset, shiftSetOffset_eq]
  · rw [hexec, portOut_other hfill hoffset]
    rfl

end Sys2Proof.Machine
end

section
/-! Decoder and encoder (spec 30_encoding.md R110 to R124): what each row of the opcode map reads, and the
bytes each instruction encodes to. -/

namespace Sys2Proof

open Sys2Proof.Machine

/-! ## What a row reads -/

/-- A row of the opcode map reads the instruction from the operand bytes of its format (R111). -/
inductive OpcodeRow.Reads : OpcodeRow → Instr → List Byte → Prop where
  | f1 (i : Instr) : Reads (.f1 i) i []
  | f2 (make : Byte → Instr) (v : Byte) : Reads (.f2 make) (make v) [v]
  | f3 (make : Word → Instr) (w : Word) : Reads (.f3 make) (make w) [lowByte w, highByte w]

section Rows

variable {row : OpcodeRow} {op : Byte} {i : Instr} {operands bytes rest : List Byte}

/-- Format F3 takes its word low byte first (R114). -/
theorem OpcodeRow.Reads.f3_bytes (make : Word → Instr) (lo hi : Byte) :
    (OpcodeRow.f3 make).Reads (make (joinBytes hi lo)) [lo, hi] := by
  simpa only [lowByte_joinBytes, highByte_joinBytes] using
    OpcodeRow.Reads.f3 make (joinBytes hi lo)

theorem OpcodeRow.Reads.length (h : row.Reads i operands) : operands.length + 1 = row.size := by
  cases h <;> rfl

theorem OpcodeRow.size_bounds (row : OpcodeRow) : 1 ≤ row.size ∧ row.size ≤ 3 := by
  cases row <;> simp [OpcodeRow.size]

/-- The row of an instruction's opcode reads it from the bytes the encoder puts after the opcode. -/
theorem rowOf_opcode_reads (i : Instr) : (rowOf i.opcode).Reads i (encode i).tail := by
  cases i <;> simp only [Instr.opcode, encode, List.headD_cons, List.tail_cons] <;> constructor

/-- The encoder gives back the opcode and the operand bytes its row read. -/
theorem encode_of_reads (h : (rowOf op).Reads i operands) : encode i = op :: operands := by
  obtain ⟨n, hn, rfl⟩ : ∃ n < 256, op = BitVec.ofNat 8 n := ⟨op.toNat, op.isLt, by simp⟩
  interval_cases n <;> cases h <;> rfl

theorem opcode_of_reads (h : (rowOf op).Reads i operands) : i.opcode = op := by
  rw [Instr.opcode, encode_of_reads h, List.headD_cons]

theorem size_of_reads (h : (rowOf op).Reads i operands) : i.size = (rowOf op).size := by
  rw [Instr.size, encode_of_reads h, List.length_cons, h.length]

theorem encode_eq_cons (i : Instr) : encode i = i.opcode :: (encode i).tail :=
  encode_of_reads (rowOf_opcode_reads i)

/-- R131: the opcode's row declares the size of the instruction. -/
theorem size_eq_rowOf_size (i : Instr) : i.size = (rowOf i.opcode).size :=
  size_of_reads (rowOf_opcode_reads i)

/-! ## The decoder by rows -/

theorem decode_of_reads (h : (rowOf op).Reads i operands) :
    decode (op :: operands ++ rest) = .ok (i, rest) := by
  generalize hrow : rowOf op = row at h
  cases h <;> simp only [decode, hrow, List.cons_append, List.nil_append, joinBytes_high_low]

/-- Where the decoder answers, the row of the first byte has read the bytes after it. -/
theorem reads_of_decode (h : decode bytes = .ok (i, rest)) :
    ∃ op operands, bytes = op :: operands ++ rest ∧ (rowOf op).Reads i operands := by
  cases bytes with
  | nil => cases h
  | cons op tail =>
    refine ⟨op, ?_⟩
    simp only [decode] at h
    generalize rowOf op = row at h ⊢
    split at h
    · cases h; exact ⟨[], rfl, .f1 _⟩
    · next make v _ => cases h; exact ⟨[v], rfl, .f2 make v⟩
    · next make lo hi _ => cases h; exact ⟨[lo, hi], rfl, .f3_bytes make lo hi⟩
    · cases h
    · cases h

/-- Of two bytes after the opcode, the row reads the first ones and leaves the others. -/
theorem exists_reads_of_two_bytes (row : OpcodeRow) (x y : Byte) (rest : List Byte) :
    ∃ i operands rest', x :: y :: rest = operands ++ rest' ∧ row.Reads i operands := by
  cases row with
  | f1 i => exact ⟨i, [], x :: y :: rest, rfl, .f1 i⟩
  | f2 make => exact ⟨make x, [x], y :: rest, rfl, .f2 make x⟩
  | f3 make => exact ⟨make (joinBytes y x), [x, y], rest, rfl, .f3_bytes make x y⟩

end Rows

/-- Settles O1: the row of the opcode reads the instruction from the bytes the encoder writes. -/
theorem decodeOfEncode : Obligations.DecodeOfEncode := by
  intro i rest
  rw [encode_eq_cons i]
  exact decode_of_reads (rowOf_opcode_reads i)

/-- Settles O2: the row of the first byte has read the bytes the encoder gives back. -/
theorem encodeOfDecode : Obligations.EncodeOfDecode := by
  intro bytes i rest h
  obtain ⟨op, operands, rfl, hreads⟩ := reads_of_decode h
  rw [encode_of_reads hreads]

/-- Settles O3: every row reads from two operand bytes at most, and declares the size. -/
theorem opcodeFixesLength : Obligations.OpcodeFixesLength := by
  refine ⟨fun op x y rest => ?_, fun i j hop => ?_⟩
  · obtain ⟨i, operands, rest', hbytes, hreads⟩ := exists_reads_of_two_bytes (rowOf op) x y rest
    have hsize : i.size = (rowOf op).size := size_of_reads hreads
    refine ⟨i, rest', ?_, opcode_of_reads hreads, hsize, ?_⟩
    · rw [hbytes]
      exact decode_of_reads hreads
    · rw [hsize]
      exact (rowOf op).size_bounds
  · rw [size_eq_rowOf_size i, size_eq_rowOf_size j, hop]

/-- Settles O5: each word is what its instruction encodes to. -/
theorem specWordsDecode : Obligations.SpecWordsDecode :=
  ⟨decodeOfEncode .movCB [], decodeOfEncode .hlt [], decodeOfEncode (.lxiSP 0x2400) [],
    decodeOfEncode (.adi 0x80) [], decodeOfEncode .anaM [], decodeOfEncode (.jz 0x2100) [],
    decodeOfEncode .rst7 [], decodeOfEncode (.inPort 0x03) [], decodeOfEncode .popPSW [],
    decodeOfEncode (.undocDD 0x3000) []⟩

end Sys2Proof
end

section
/-! The step of the engine (spec 30_encoding.md R125, R126, 60_exceptions.md R326, R342 to R344): the fetch
reads what the decoder decodes, and a step short of any offer is its instruction. -/

namespace Sys2Proof.Machine

/-! ## The fetch -/

/-- These bytes are read from PC on. -/
def State.holdsAtPc (s : State) (bytes : List Byte) : Prop :=
  ∀ k (hk : k < bytes.length), memRead s (s.pc + BitVec.ofNat 16 k) = .ok bytes[k]

section EngineStep

variable {s : State} {op lo : Byte} {i : Instr} {r : FaultRecord}

/-- The fetch reads the instruction whose bytes stand at PC (R125). -/
theorem fetch_of_holdsAtPc (h : s.holdsAtPc (encode i)) : fetch s = .ok i := by
  have hreads := rowOf_opcode_reads i
  rw [encode_eq_cons i] at h
  generalize (encode i).tail = operands at h hreads
  have hop : memRead s s.pc = .ok i.opcode := by
    rw [← BitVec.add_zero s.pc]
    exact h 0 (by simp)
  generalize hrow : rowOf i.opcode = row at hreads
  cases hreads with
  | f1 => simp only [fetch, hop, hrow]
  | f2 make v =>
    have hv : memRead s (s.pc + 1) = .ok v := h 1 (by simp)
    simp only [fetch, hop, hrow, hv]
  | f3 make w =>
    have hlo : memRead s (s.pc + 1) = .ok (lowByte w) := h 1 (by simp)
    have hhi : memRead s (s.pc + 2) = .ok (highByte w) := h 2 (by simp)
    simp only [fetch, hop, hrow, hlo, hhi, joinBytes_high_low]

theorem fetch_error_of_opcode (h : memRead s s.pc = .error r) : fetch s = .error r := by
  simp only [fetch, h]

theorem fetch_error_of_first_operand (hop : memRead s s.pc = .ok op) (hsize : 2 ≤ (rowOf op).size)
    (h : memRead s (s.pc + 1) = .error r) : fetch s = .error r := by
  cases hrow : rowOf op with
  | f1 i => simp [hrow, OpcodeRow.size] at hsize
  | f2 make => simp only [fetch, hop, hrow, h]
  | f3 make => simp only [fetch, hop, hrow, h]

theorem fetch_error_of_second_operand (hop : memRead s s.pc = .ok op)
    (hsize : (rowOf op).size = 3) (hlo : memRead s (s.pc + 1) = .ok lo)
    (h : memRead s (s.pc + 2) = .error r) : fetch s = .error r := by
  cases hrow : rowOf op with
  | f1 i => simp [hrow, OpcodeRow.size] at hsize
  | f2 make => simp [hrow, OpcodeRow.size] at hsize
  | f3 make => simp only [fetch, hop, hrow, hlo, h]

/-! ## The step by its fetch -/

theorem engineStep_of_fetch_error (hfault : s.fault = none) (hhalt : s.halt = false)
    (h : fetch s = .error r) : engineStep s = raise s r := by
  simp only [engineStep, hfault, hhalt, h, Bool.false_eq_true, if_false]

theorem engineStep_of_fetch (hfault : s.fault = none) (hhalt : s.halt = false)
    (h : fetch s = .ok i) : engineStep s = runInstr i s := by
  simp only [engineStep, hfault, hhalt, h, Bool.false_eq_true, if_false]

/-- Inside a frame, a machine that is not faulted, halted or paused runs the instruction it fetches. -/
theorem step_of_fetch (hfault : s.fault = none) (hhalt : s.halt = false) (hrunning : s.running = true)
    (hcyc : s.cyc < frameCycles s.cfg) (h : fetch s = .ok i) :
    step s = boundary (runInstr i s) := by
  simp only [step, frameStep, hfault, hrunning, hcyc, and_self, if_true,
    engineStep_of_fetch hfault hhalt h]

/-! ## Outside the EI shadow, short of any offer -/

theorem beginOperation_of_no_shadow (h : s.eiShadow = false) :
    beginOperation i s = { s with pc := s.pc + BitVec.ofNat 16 i.size } := by
  cases s
  cases h
  rfl

/-- With no interrupt held over, the step of an instruction is its operation and its cycles. -/
theorem runInstr_of_no_shadow {s1 s2 : State} (h : s.eiShadow = false)
    (hbegin : beginOperation i s = s1) (hexec : exec i s1 = .next s2) :
    runInstr i s = .next (s2, instrCycles i s1) := by
  have hheld : heldInterrupt s = none := by simp only [heldInterrupt, h, Bool.false_eq_true, if_false]
  simp only [runInstr, hbegin, hexec, hheld, endOperation]

theorem midFrameOffer_of_not_due {k : State → Out}
    (h : s.midFired = true ∨ scanline s < s.cfg.midScanline) : midFrameOffer s k = k s := by
  refine if_neg fun ⟨hmid, hline⟩ => ?_
  obtain hmid' | hline' := h
  · exact absurd (hmid.symm.trans hmid') Bool.false_ne_true
  · omega

theorem endOfFrame_of_lt (h : s.cyc < frameCycles s.cfg) : endOfFrame s = .next s :=
  if_neg (Nat.not_le.mpr h)

/-- A boundary that reaches neither offer only charges the cycles. -/
theorem boundary_of_no_offer {cycles : Nat} (hframe : s.cyc + cycles < frameCycles s.cfg)
    (hmid : s.midFired = true ∨ (s.cyc + cycles) / scanlineCycles s.cfg < s.cfg.midScanline) :
    boundary (.next (s, cycles)) = .next { s with cyc := s.cyc + cycles } := by
  show midFrameOffer (s.setCyc (s.cyc + cycles)) endOfFrame = _
  rw [midFrameOffer_of_not_due hmid, endOfFrame_of_lt hframe]
  rfl

end EngineStep

/-- Settles O48: the bytes are the instruction's own (O2), so the fetch reads it. -/
theorem stepRunsDecoded : Obligations.StepRunsDecoded := by
  intro s i bytes hfault hhalt hrunning hcyc hdecode hbytes
  obtain rfl : bytes = encode i := by simpa using encodeOfDecode bytes i [] hdecode
  exact step_of_fetch hfault hhalt hrunning hcyc (fetch_of_holdsAtPc hbytes)

/-- Settles O49: no operation touches CYC, MIDFIRED or the parameters, so the boundary is as the statement
has it. -/
theorem stepBetweenOffers : Obligations.StepBetweenOffers := by
  intro s s2 i hfault hhalt hrunning hshadow hfetch s1 cyc hexec hframe hmid
  obtain ⟨-, -, -, -, -, hcfg, -, -, hcyc, hmidFired, -⟩ := controlFrame i s1 s2 hexec
  have hstart : s.cyc < frameCycles s.cfg := Nat.lt_of_le_of_lt (Nat.le_add_right _ _) hframe
  have hcyc2 : s2.cyc + instrCycles i s1 = cyc := congrArg (· + instrCycles i s1) hcyc
  rw [step_of_fetch hfault hhalt hrunning hstart hfetch,
    runInstr_of_no_shadow hshadow (beginOperation_of_no_shadow hshadow) hexec,
    boundary_of_no_offer] <;> rw [hcyc2, hcfg]
  · exact hframe
  · rw [hmidFired]
    exact hmid

/-- Settles O50: the byte that cannot be read stops the fetch, and the fetch the step. -/
theorem fetchFaults : Obligations.FetchFaults := by
  intro s op lo r hfault hhalt
  exact ⟨fun h => engineStep_of_fetch_error hfault hhalt (fetch_error_of_opcode h),
    fun hop hsize h =>
      engineStep_of_fetch_error hfault hhalt (fetch_error_of_first_operand hop hsize h),
    fun hop hsize hlo h =>
      engineStep_of_fetch_error hfault hhalt (fetch_error_of_second_operand hop hsize hlo h)⟩

end Sys2Proof.Machine
end

section
/-! The costs of the official cycle table (spec 30_encoding.md R127, R130). -/

namespace Sys2Proof.Machine

/-! ## The table as a whole -/

/-- What holds of every entry of a list holds of every entry looked up inside it. -/
theorem forall_getD_of_lt {α : Type} {p : α → Prop} {l : List α} {d : α} (hl : ∀ x ∈ l, p x) {k : Nat}
    (hk : k < l.length) : p (l.getD k d) := by
  rw [List.getD_eq_getElem _ _ hk]
  exact hl _ (List.getElem_mem hk)

/-- R130's table has 16 lines of 16 costs, none below 4. -/
theorem officialTaken_ge :
    officialTaken.length = 16 ∧ ∀ row ∈ officialTaken, row.length = 16 ∧ ∀ cost ∈ row, 4 ≤ cost := by
  decide

theorem officialCycles_ge (op : Byte) (taken : Bool) : 4 ≤ officialCycles op taken := by
  obtain ⟨hlines, hrows⟩ := officialTaken_ge
  obtain ⟨hcosts, hge⟩ := forall_getD_of_lt (d := []) hrows (k := op.toNat / 16) (by omega)
  unfold officialCycles
  split
  · decide
  · split
    · decide
    · exact forall_getD_of_lt hge (by omega)

/-! ## The cost of an instruction -/

/-- R127: the opcode of a conditional call holds its condition. -/
theorem takenUnder_callIf (cc : Cond) (f : Flags) :
    takenUnder (0b11#2 ++ condCode cc ++ 0b100#3) f = condHolds f cc := by
  cases cc <;> rfl

theorem takenUnder_returnIf (cc : Cond) (f : Flags) :
    takenUnder (0b11#2 ++ condCode cc ++ 0b000#3) f = condHolds f cc := by
  cases cc <;> rfl

section Costs

variable {s : State} {i : Instr} {n : Nat} (hofficial : s.cfg.cycleTable = .official)

include hofficial

theorem instrCycles_official (i : Instr) :
    instrCycles i s = officialCycles i.opcode (takenUnder i.opcode s.flags) := by
  rw [instrCycles, hofficial, tableCycles]

theorem instrCycles_bounds (i : Instr) : 4 ≤ instrCycles i s ∧ instrCycles i s ≤ 18 := by
  rw [instrCycles_official hofficial]
  exact ⟨officialCycles_ge _ _, officialCycles_le _ _⟩

/-- An opcode of one cost, taken or not. -/
theorem instrCycles_of_opcode {op : Byte} (hop : i.opcode = op)
    (hcost : ∀ taken, officialCycles op taken = n) : instrCycles i s = n := by
  rw [instrCycles_official hofficial, hop, hcost]

/-- Instructions whose opcodes have one cost, taken or not. -/
theorem instrCycles_of_opcodes {l : List Instr} (ops : List Byte) (hops : l.map Instr.opcode = ops)
    (hcost : ∀ op ∈ ops, ∀ taken, officialCycles op taken = n) : ∀ i ∈ l, instrCycles i s = n := by
  intro i hi
  rw [instrCycles_official hofficial]
  exact hcost _ (hops ▸ List.mem_map_of_mem hi) _

theorem instrCycles_callIf (cc : Cond) (w : Word) :
    instrCycles (.callIf cc w) s = if condHolds s.flags cc = true then 17 else 11 := by
  rw [instrCycles_official hofficial, opcode_callIf, takenUnder_callIf]
  generalize condHolds s.flags cc = taken
  cases cc <;> cases taken <;> rfl

theorem instrCycles_returnIf (cc : Cond) :
    instrCycles (.returnIf cc) s = if condHolds s.flags cc = true then 11 else 5 := by
  rw [instrCycles_official hofficial, opcode_returnIf, takenUnder_returnIf]
  generalize condHolds s.flags cc = taken
  cases cc <;> cases taken <;> rfl

end Costs

/-- Settles O51: the bounds of the table, and the cost of each form by the pattern of its opcode. -/
theorem officialCosts : Obligations.OfficialCosts := by
  intro s h
  refine ⟨instrCycles_bounds h, fun rd rs rp op cc n v w => ?_⟩
  exact ⟨instrCycles_of_opcode h (opcode_movReg rd rs) (by cases rd <;> cases rs <;> decide),
    instrCycles_of_opcode h (opcode_movFromM rd) (by cases rd <;> decide),
    instrCycles_of_opcode h (opcode_movToM rs) (by cases rs <;> decide),
    instrCycles_of_opcode h (opcode_mviReg rd v) (by cases rd <;> decide),
    instrCycles_of_opcode h (op := 0x36) rfl (by decide),
    instrCycles_of_opcode h (opcode_lxi rp w) (by cases rp <;> decide),
    instrCycles_of_opcodes h [0x3A, 0x32] rfl (by decide),
    instrCycles_of_opcodes h [0x2A, 0x22] rfl (by decide),
    instrCycles_of_opcodes h [0x0A, 0x1A, 0x02, 0x12] rfl (by decide),
    instrCycles_of_opcode h (opcode_aluReg op rs) (by cases op <;> cases rs <;> decide),
    instrCycles_of_opcode h (opcode_aluM op) (by cases op <;> decide),
    instrCycles_of_opcode h (opcode_aluImm op v) (by cases op <;> decide),
    instrCycles_of_opcode h (opcode_inr rd) (by cases rd <;> decide),
    instrCycles_of_opcode h (opcode_dcr rd) (by cases rd <;> decide),
    instrCycles_of_opcodes h [0x34, 0x35] rfl (by decide),
    instrCycles_of_opcode h (opcode_inx rp) (by cases rp <;> decide),
    instrCycles_of_opcode h (opcode_dcx rp) (by cases rp <;> decide),
    instrCycles_of_opcode h (opcode_dad rp) (by cases rp <;> decide),
    instrCycles_of_opcodes h
      [0xEB, 0x27, 0x07, 0x0F, 0x17, 0x1F, 0x2F, 0x37, 0x3F, 0xFB, 0xF3, 0x00] rfl (by decide),
    instrCycles_of_opcode h (opcode_jumpIf cc w) (by cases cc <;> decide),
    instrCycles_callIf h cc w,
    instrCycles_returnIf h cc,
    instrCycles_of_opcode h (opcode_rst n) (by revert n; decide),
    instrCycles_of_opcodes h [0xC3, 0xC9, 0xC1, 0xD1, 0xE1, 0xF1, 0xDB, 0xD3] rfl (by decide),
    instrCycles_of_opcode h (op := 0xCD) rfl (by decide),
    instrCycles_of_opcodes h [0xC5, 0xD5, 0xE5, 0xF5] rfl (by decide),
    instrCycles_of_opcodes h [0xE9, 0xF9] rfl (by decide),
    instrCycles_of_opcode h (op := 0xE3) rfl (by decide),
    instrCycles_of_opcode h (op := 0x76) rfl (by decide),
    instrCycles_of_opcodes h [0x08, 0x10, 0x18, 0x20, 0x28, 0x30, 0x38] rfl (by decide),
    instrCycles_of_opcodes h [0xCB, 0xD9] rfl (by decide),
    instrCycles_of_opcodes h [0xDD, 0xED, 0xFD] rfl (by decide)⟩

end Sys2Proof.Machine
end

section
/-! INR M and DCR M (spec 41_arithmetic.md R184 to R187). -/

namespace Sys2Proof.Machine

open Sys2Proof.Claims

/-! ## The flags -/

theorem incByte_eq (f : Flags) (v : Byte) :
    incByte f v = ⟨v + 1, resultFlags (v + 1) f.cy (decide (v.toNat % 16 = 15))⟩ := by
  have hlow : (lowNibble (v + 1) = 0) = (v.toNat % 16 = 15) := by
    rw [lowNibble, eq_iff_iff]
    bv_omega
  simp only [incByte, hlow]
  rfl

theorem decByte_eq (f : Flags) (v : Byte) :
    decByte f v = ⟨v - 1, resultFlags (v - 1) f.cy (decide (v.toNat % 16 ≠ 0))⟩ := by
  have hlow : (lowNibble (v - 1) ≠ 0xF) = (v.toNat % 16 ≠ 0) := by
    rw [lowNibble, eq_iff_iff]
    bv_omega
  simp only [decByte, hlow]
  rfl

/-! ## The byte at HL -/

section AtHl

variable {s : State} {v : Byte}

/-- INR M goes on from the state with the flags written, to the write (R185). -/
theorem exec_inrM (h : memRead s s.hl = .ok v) : exec .inrM s =
    writeThen (s.setFlags (resultFlags (v + 1) s.flags.cy (decide (v.toNat % 16 = 15)))) s.hl (v + 1)
      .next := by
  show incrementOp .m s = _
  rw [incrementOp, readOperand, readThen_ok h, incByte_eq]
  rfl

theorem exec_dcrM (h : memRead s s.hl = .ok v) : exec .dcrM s =
    writeThen (s.setFlags (resultFlags (v - 1) s.flags.cy (decide (v.toNat % 16 ≠ 0)))) s.hl (v - 1)
      .next := by
  show decrementOp .m s = _
  rw [decrementOp, readOperand, readThen_ok h, decByte_eq]
  rfl

end AtHl

/-- Settles O31: the write, after the flags, by what HL resolves to. -/
theorem incrementMemoryResult : Obligations.IncrementMemoryResult := by
  intro s v hv up down
  rw [exec_inrM hv, exec_dcrM hv]
  refine ⟨fun off hram => ?_, fun hrom hpolicy => ?_, fun hrom hpolicy => ?_⟩
  · exact ⟨writeThen_leaves (writeLeaves_of_ramAt hram), writeThen_leaves (writeLeaves_of_ramAt hram)⟩
  · have hfault (f : Flags) : writeFault (s.setFlags f) s.hl (.romWrite s.hl) :=
      .inr (.inl ⟨hrom, hpolicy, rfl⟩)
    exact ⟨writeThen_stops (hfault up), writeThen_stops (hfault down)⟩
  · have hleaves (f : Flags) (x : Byte) : writeLeaves (s.setFlags f) s.hl x (s.setFlags f) :=
      .inr ⟨hrom, hpolicy, rfl⟩
    exact ⟨writeThen_leaves (hleaves up _), writeThen_leaves (hleaves down _)⟩

end Sys2Proof.Machine
end

section
/-! Register moves, immediate loads, XCHG and SPHL (spec 40_data_transfer.md R140, R143, R145, R152,
44_stack_io_machine.md R285). -/

namespace Sys2Proof.Machine

/-- Settles O22: the form reads a register and writes a register, and no access to memory comes between. -/
theorem movRegisterResult : Obligations.MovRegisterResult := by
  intro rd rs s
  rw [exec_movReg, moveOp, readOperand, writeOperand]

/-- DE written from two bytes, as `setPair_hl_joinBytes` has it for HL (R31). -/
theorem setPair_de_joinBytes (s : State) (hi lo : Byte) :
    s.setPair .de (joinBytes hi lo) = { s with d := hi, e := lo } := by
  simp only [State.setPair, highByte_joinBytes, lowByte_joinBytes]
  rfl

/-- XCHG reads HL before it writes it, so the old bytes go to DE (R152). -/
theorem exec_xchg (s : State) :
    exec .xchg s = .next { s with d := s.h, e := s.l, h := s.d, l := s.e } := by
  show xchgOp s = _
  rw [xchgOp, State.pair, setPair_hl_joinBytes, State.hl, State.pair, setPair_de_joinBytes]

/-- Settles O25: MVI writes its register operand, LXI its pair, XCHG swaps the bytes of two pairs, and
SPHL sets SP. -/
theorem immediateAndExchangeResult : Obligations.ImmediateAndExchangeResult := by
  intro rd rp v w s
  refine ⟨?mviReg, ?lxi, exec_xchg s, ?sphl⟩
  case mviReg => rw [exec_mviReg, storeOp, writeOperand]
  case lxi => rw [exec_lxi, loadPairOp]
  case sphl =>
    show sphlOp s = _
    rw [sphlOp, State.hl, State.setSp]

end Sys2Proof.Machine
end

section
/-! Arithmetic (spec 41_arithmetic.md R170 to R191, 42_logical.md R220 to R222): the ALU forms of addition,
subtraction and comparison, INR r and DCR r, the pairs, DAA and decimal addition. -/

namespace Sys2Proof.Machine

open Sys2Proof.Claims

/-! ## The ALU forms -/

section AluForms

variable {op : AluOp} {s : State} {i : Instr} {f : Flags} {a b v : Byte}

theorem aluStep_eq : aluStep op v s = { s with
    a := if op = .cmp then s.a else (alu op s.flags s.a v).value
    flags := (alu op s.flags s.a v).flags } := by
  unfold aluStep
  split <;> rfl

/-- A form of an ALU operation, its operand at hand, answers the operation's step (R112). -/
theorem exec_aluForm (h : aluForm op s v i) : exec i s = .next (aluStep op v s) := by
  obtain ⟨r, rfl, rfl⟩ | ⟨rfl, hv⟩ | rfl := h
  · rw [exec_aluReg, aluOperandOp, readOperand]
  · rw [exec_aluM, aluOperandOp, readOperand, readThen_ok hv]
  · rw [exec_aluImm, aluImmediateOp]

/-- `zsp` over the carries is the flags of a result byte (R40). -/
theorem zsp_eq_resultFlags (r : Byte) (cy ac : Bool) :
    zsp { f with cy := cy, ac := ac } r = resultFlags r cy ac :=
  rfl

theorem lowNibble_complement (b : Byte) : lowNibble (~~~b) = (255 - b.toNat) % 16 := by
  rw [lowNibble, BitVec.toNat_not]

/-- `SubOp` as the addition of the complement (R171). -/
theorem subBytes_eq (bin : Bool) :
    let r : Byte := BitVec.ofNat 8 (a.toNat + (255 - b.toNat) + (1 - bin.toNat))
    subBytes f a b bin = ⟨r, resultFlags r (decide (a.toNat < b.toNat + bin.toNat))
      (decide (15 < lowNibble a + (255 - b.toNat) % 16 + (1 - bin.toNat)))⟩ := by
  have hdiff : a - b - BitVec.ofNat 8 bin.toNat =
      BitVec.ofNat 8 (a.toNat + (255 - b.toNat) + (1 - bin.toNat)) := by
    cases bin <;> simp only [Bool.toNat_false, Bool.toNat_true] <;> bv_omega
  simp only [subBytes, hdiff, lowNibble_complement, zsp_eq_resultFlags]

/-- With no borrow in, `SubOp` compares: its AC says that the low halves do not borrow (R220). -/
theorem subBytes_no_borrow : subBytes f a b false =
    ⟨a - b, resultFlags (a - b) (decide (a.toNat < b.toNat))
      (decide (b.toNat % 16 ≤ a.toNat % 16))⟩ := by
  have hdiff : a - b - BitVec.ofNat 8 false.toNat = a - b := BitVec.sub_zero _
  have hhalf : (15 < lowNibble a + lowNibble (~~~b) + (1 - false.toNat)) =
      (b.toNat % 16 ≤ a.toNat % 16) := by
    rw [lowNibble_complement, lowNibble, Bool.toNat_false, eq_iff_iff]
    omega
  simp only [subBytes, hdiff, hhalf, zsp_eq_resultFlags]
  rfl

end AluForms

/-- Settles O26: `AddOp` with the carry in that the operation takes. -/
theorem additionResult : Obligations.AdditionResult := by
  rintro s i v cin (⟨hform, rfl⟩ | ⟨hform, rfl⟩) <;>
    exact (exec_aluForm hform).trans (congrArg _ aluStep_eq)

/-- Settles O27: `SubOp` as the addition of the complement, with the borrow that the operation takes. -/
theorem subtractionResult : Obligations.SubtractionResult := by
  rintro op s i v bin hform (⟨rfl, rfl⟩ | ⟨rfl, rfl⟩ | ⟨rfl, rfl⟩) <;>
    rw [exec_aluForm hform, aluStep_eq, alu, subBytes_eq] <;> rfl

/-- Settles O28: CMP is `SubOp` with no borrow in, its difference not stored. -/
theorem compareResult : Obligations.CompareResult := by
  intro s i v hform
  have hexec : exec i s = .next { s with flags := (subBytes s.flags s.a v false).flags } := by
    rw [exec_aluForm hform, aluStep_eq]
    rfl
  rw [subBytes_no_borrow] at hexec
  exact ⟨_, hexec, decide_eq_true_iff.trans sub_eq_zero, decide_eq_true_iff, rfl, rfl,
    decide_eq_true_iff⟩

/-! ## INR r and DCR r -/

theorem State.setReg_setFlags (s : State) (f : Flags) (r : Reg8) (v : Byte) :
    (s.setFlags f).setReg r v = { s.setReg r v with flags := f } := by
  cases r <;> rfl

/-- Settles O30: INR and DCR on the register's own byte. -/
theorem incrementRegisterResult : Obligations.IncrementRegisterResult := by
  intro rd s
  constructor
  · rw [exec_inr, incrementOp, readOperand, writeOperand, incByte_eq, State.setReg_setFlags]
  · rw [exec_dcr, decrementOp, readOperand, writeOperand, decByte_eq, State.setReg_setFlags]

/-! ## The pairs -/

/-- Settles O32: 16-bit sums as sums of numbers, narrowed. -/
theorem pairArithmeticResult : Obligations.PairArithmeticResult := by
  intro rp s
  refine ⟨?inx, ?dcx, ?dad⟩
  case inx =>
    have hup : s.pair rp + 1 = BitVec.ofNat 16 ((s.pair rp).toNat + 1) := by bv_omega
    rw [exec_inx, inxOp, hup]
  case dcx =>
    have hdown : s.pair rp - 1 = BitVec.ofNat 16 ((s.pair rp).toNat + 0xFFFF) := by bv_omega
    rw [exec_dcx, dcxOp, hdown]
  case dad =>
    have hsum : BitVec.ofNat 16 (s.hl.toNat + (s.pair rp).toNat) = s.hl + s.pair rp := by bv_omega
    rw [exec_dad, dadOp, hsum]
    rfl

/-! ## DAA -/

section Daa

variable {f : Flags} {a : Byte}

theorem ite_eq_mul_toNat (n : Nat) (b : Bool) : (if b = true then n else 0) = n * b.toNat := by
  cases b <;> simp

theorem daaLow_eq (f : Flags) (a : Byte) :
    daaLow f a = 6 * (decide (9 < lowNibble a ∨ f.ac = true)).toNat := by
  rw [← ite_eq_mul_toNat, daaLow]
  simp only [decide_eq_true_eq]

/-- The high correction leaves the low half alone, so AC is the low correction's carry (R191). -/
theorem daaByte_eq (f : Flags) (a : Byte) :
    let r : Byte := BitVec.ofNat 8 (a.toNat + (daaLow f a + 0x60 * (daaHigh f a).toNat))
    daaByte f a = ⟨r, resultFlags r (daaHigh f a || f.cy) (decide (15 < lowNibble a + daaLow f a))⟩ := by
  have hlow : (daaLow f a + 0x60 * (daaHigh f a).toNat) % 16 = daaLow f a := by
    unfold daaLow
    split <;> omega
  simp only [daaByte, ite_eq_mul_toNat, hlow, zsp_eq_resultFlags]

theorem exec_daa (s : State) : exec .daa s = .next { s with
    a := (daaByte s.flags s.a).value, flags := (daaByte s.flags s.a).flags } :=
  rfl

/-- A carry already set asks for the high correction, so the carry DAA leaves is that correction. -/
theorem daaHigh_or_cy (f : Flags) (a : Byte) : (daaHigh f a || f.cy) = daaHigh f a := by
  cases h : f.cy <;> simp [daaHigh, h]

end Daa

/-- Settles O33: the corrections as multiples of 6 and 0x60. -/
theorem daaResult : Obligations.DaaResult := by
  intro s
  rw [exec_daa, daaByte_eq, daaLow_eq]
  rfl

/-! ## Decimal addition -/

section Decimal

variable {f : Flags} {a v r : Byte} (ha : isDecimal a) (hv : isDecimal v)
  (hr : r.toNat = (a.toNat + v.toNat) % 256)

include ha hv hr

/-- After the addition of decimal bytes the low correction is made exactly when the low digits carry. -/
theorem daaLow_of_decimal (hac : f.ac = decide (15 < a.toNat % 16 + v.toNat % 16)) :
    daaLow f r = if 9 < a.toNat % 16 + v.toNat % 16 then 6 else 0 := by
  obtain ⟨halow, hahigh⟩ := ha
  obtain ⟨hvlow, hvhigh⟩ := hv
  have hcarry : (9 < lowNibble r ∨ f.ac = true) ↔ 9 < a.toNat % 16 + v.toNat % 16 := by
    rw [hac, decide_eq_true_iff, lowNibble]
    omega
  rw [daaLow, if_congr hcarry rfl rfl]

/-- The high correction is made exactly when the sum needs a hundred. -/
theorem daaHigh_of_decimal (hcy : f.cy = decide (255 < a.toNat + v.toNat)) :
    daaHigh f r = decide (99 < decimalValue a + decimalValue v) := by
  obtain ⟨halow, hahigh⟩ := ha
  obtain ⟨hvlow, hvhigh⟩ := hv
  rw [daaHigh, decide_eq_decide, hcy, decide_eq_true_iff, lowNibble, highNibble, decimalValue,
    decimalValue]
  omega

/-- DAA adds 6 for a carry of the low digits, and takes 160 off for a hundred. -/
theorem daaByte_toNat_of_decimal (hac : f.ac = decide (15 < a.toNat % 16 + v.toNat % 16))
    (hcy : f.cy = decide (255 < a.toNat + v.toNat)) :
    (daaByte f r).value.toNat + (if 99 < decimalValue a + decimalValue v then 160 else 0) =
      a.toNat + v.toNat + (if 9 < a.toNat % 16 + v.toNat % 16 then 6 else 0) := by
  rw [daaByte_eq, daaLow_of_decimal ha hv hr hac, daaHigh_of_decimal ha hv hr hcy,
    BitVec.toNat_ofNat, hr, Nat.mod_add_mod, ← ite_eq_mul_toNat]
  simp only [decide_eq_true_eq]
  split <;> split <;> simp only [isDecimal, decimalValue] at * <;> omega

/-- DAA on the binary sum of two decimal bytes, with the carries of that sum, gives the decimal sum. -/
theorem daaByte_of_decimal (hac : f.ac = decide (15 < a.toNat % 16 + v.toNat % 16))
    (hcy : f.cy = decide (255 < a.toNat + v.toNat)) :
    isDecimal (daaByte f r).value ∧ decimalValue (daaByte f r).value +
      100 * (daaByte f r).flags.cy.toNat = decimalValue a + decimalValue v := by
  have hvalue := daaByte_toNat_of_decimal ha hv hr hac hcy
  have hcarry : (daaByte f r).flags.cy = decide (99 < decimalValue a + decimalValue v) := by
    rw [← daaHigh_of_decimal ha hv hr hcy, ← daaHigh_or_cy, daaByte_eq, resultFlags]
  rw [hcarry]
  by_cases hhundred : 99 < decimalValue a + decimalValue v
  · rw [if_pos hhundred] at hvalue
    rw [decide_eq_true hhundred, Bool.toNat_true]
    split at hvalue <;> simp only [isDecimal, decimalValue] at * <;> omega
  · rw [if_neg hhundred] at hvalue
    rw [decide_eq_false hhundred, Bool.toNat_false]
    split at hvalue <;> simp only [isDecimal, decimalValue] at * <;> omega

end Decimal

/-- Settles O34: ADI leaves the binary sum with its carries, and DAA corrects it. -/
theorem decimalAddition : Obligations.DecimalAddition := by
  intro s s1 s2 v ha hv hadi hdaa
  rw [additionResult s (.adi v) v 0 (.inl ⟨.inr (.inr rfl), rfl⟩)] at hadi
  cases hadi
  rw [exec_daa] at hdaa
  cases hdaa
  exact daaByte_of_decimal ha hv (BitVec.toNat_ofNat _ _) rfl rfl

end Sys2Proof.Machine
end

section
/-! Logical, rotate and flag instructions (spec 42_logical.md R210 to R219, R223 to R229). -/

namespace Sys2Proof.Machine

open Sys2Proof.Claims

/-! ## ANA, XRA and ORA -/

/-- `AndOp`: bit 3 of the OR of the operands is the OR of their bits 3 (R210). -/
theorem andBytes_eq (f : Flags) (a b : Byte) :
    andBytes f a b = ⟨a &&& b, resultFlags (a &&& b) false (a.getLsbD 3 || b.getLsbD 3)⟩ := by
  rw [andBytes, BitVec.getLsbD_or, zsp_eq_resultFlags]

theorem xorBytes_eq (f : Flags) (a b : Byte) :
    xorBytes f a b = ⟨a ^^^ b, resultFlags (a ^^^ b) false false⟩ :=
  rfl

theorem orBytes_eq (f : Flags) (a b : Byte) :
    orBytes f a b = ⟨a ||| b, resultFlags (a ||| b) false false⟩ :=
  rfl

/-- Settles O29: each form answers its operation's step, which writes A and the five flags. -/
theorem logicalResult : Obligations.LogicalResult := by
  intro s i v
  refine ⟨fun hform => ?ana, fun hform => ?xra, fun hform => ?ora⟩
  case ana => rw [exec_aluForm hform, aluStep_eq, alu, andBytes_eq, if_neg (by decide)]
  case xra => rw [exec_aluForm hform, aluStep_eq, alu, xorBytes_eq, if_neg (by decide)]
  case ora => rw [exec_aluForm hform, aluStep_eq, alu, orBytes_eq, if_neg (by decide)]

/-! ## The rotates -/

section Rotates

variable (f : Flags) (a : Byte)

theorem accStep_eq (op : Flags → Byte → AluResult) (s : State) : accStep op s =
    .next { s with a := (op s.flags s.a).value, flags := (op s.flags s.a).flags } :=
  rfl

theorem getLsbD_zero_eq : a.getLsbD 0 = decide (a.toNat % 2 = 1) :=
  Nat.testBit_zero ..

/-- A byte moved left with a bit put in at its low end: the two do not overlap, so the OR is a sum. -/
theorem shiftLeft_one_or_bit (b : Bool) :
    (a <<< 1) ||| BitVec.ofNat 8 b.toNat = BitVec.ofNat 8 (a.toNat * 2 % 256 + b.toNat) := by
  have hbit : b.toNat < 2 ^ 1 := b.toNat_lt
  have hlow : (BitVec.ofNat 8 b.toNat).toNat = b.toNat := by cases b <;> rfl
  have hhigh : (a <<< 1).toNat = 2 ^ 1 * (a.toNat % 128) := by
    rw [BitVec.toNat_shiftLeft, Nat.shiftLeft_eq]
    omega
  apply BitVec.eq_of_toNat_eq
  rw [BitVec.toNat_or, hhigh, hlow, ← Nat.two_pow_add_eq_or_of_lt hbit, BitVec.toNat_ofNat]
  omega

/-- A byte moved right with a bit put in at its high end: the two do not overlap, so the OR is a sum. -/
theorem shiftRight_one_or_bit (b : Bool) :
    (a >>> 1) ||| (BitVec.ofNat 8 b.toNat <<< 7) = BitVec.ofNat 8 (a.toNat / 2 + b.toNat * 128) := by
  have hbit : b.toNat < 2 := b.toNat_lt
  have hlow : (a >>> 1).toNat = a.toNat / 2 := by rw [BitVec.toNat_ushiftRight, Nat.shiftRight_one]
  have hfits : a.toNat / 2 < 2 ^ 7 := by omega
  have hhigh : (BitVec.ofNat 8 b.toNat <<< 7).toNat = 2 ^ 7 * b.toNat := by cases b <;> rfl
  apply BitVec.eq_of_toNat_eq
  rw [BitVec.toNat_or, hhigh, hlow, Nat.or_comm, ← Nat.two_pow_add_eq_or_of_lt hfits,
    BitVec.toNat_ofNat]
  omega

theorem getLsbD_seven_toNat : (a.getLsbD 7).toNat = a.toNat / 128 := by
  rw [BitVec.getLsbD, Nat.toNat_testBit]
  omega

theorem getLsbD_zero_toNat : (a.getLsbD 0).toNat = a.toNat % 2 := by
  rw [BitVec.getLsbD, Nat.toNat_testBit, pow_zero, Nat.div_one]

theorem rlcByte_eq : rlcByte f a = ⟨BitVec.ofNat 8 (a.toNat * 2 % 256 + a.toNat / 128),
    { f with cy := decide (128 ≤ a.toNat) }⟩ := by
  rw [rlcByte, shiftLeft_one_or_bit, getLsbD_seven_toNat, getLsbD_seven]

theorem rrcByte_eq : rrcByte f a = ⟨BitVec.ofNat 8 (a.toNat / 2 + a.toNat % 2 * 128),
    { f with cy := decide (a.toNat % 2 = 1) }⟩ := by
  rw [rrcByte, shiftRight_one_or_bit, getLsbD_zero_toNat, getLsbD_zero_eq]

theorem ralByte_eq : ralByte f a = ⟨BitVec.ofNat 8 (a.toNat * 2 % 256 + f.cy.toNat),
    { f with cy := decide (128 ≤ a.toNat) }⟩ := by
  rw [ralByte, shiftLeft_one_or_bit, getLsbD_seven]

theorem rarByte_eq : rarByte f a = ⟨BitVec.ofNat 8 (a.toNat / 2 + f.cy.toNat * 128),
    { f with cy := decide (a.toNat % 2 = 1) }⟩ := by
  rw [rarByte, shiftRight_one_or_bit, getLsbD_zero_eq]

end Rotates

/-! ## CMA, CMC and STC -/

/-- The complement of a byte as a number (R227). -/
theorem complement_eq_ofNat (a : Byte) : ~~~a = BitVec.ofNat 8 (255 - a.toNat) := by
  bv_omega

/-- Settles O35: each rotate as the sum of the moved bits and the bit that enters. -/
theorem rotateAndFlagResult : Obligations.RotateAndFlagResult := by
  intro s
  refine ⟨?rlc, ?rrc, ?ral, ?rar, ?cma, rfl, rfl⟩
  case rlc => exact (accStep_eq rlcByte s).trans (by rw [rlcByte_eq])
  case rrc => exact (accStep_eq rrcByte s).trans (by rw [rrcByte_eq])
  case ral => exact (accStep_eq ralByte s).trans (by rw [ralByte_eq])
  case rar => exact (accStep_eq rarByte s).trans (by rw [rarByte_eq])
  case cma =>
    rw [← complement_eq_ofNat]
    rfl

end Sys2Proof.Machine
end

section
/-! Machine control (spec 44_stack_io_machine.md R288 to R292, 70_reset_and_hazards.md R380): EI, DI, HLT and
NOP, and the halted machine that no interrupt can wake. -/

namespace Sys2Proof.Machine

/-- EISHADOW is left as it was where EI has no delay. -/
theorem exec_ei (s : State) :
    exec .ei s = .next { s with inte := true, eiShadow := s.eiShadow || s.cfg.eiDelay } := by
  show eiOp s = _
  rw [eiOp]
  cases s.cfg.eiDelay with
  | true => rw [if_pos rfl, Bool.or_true, State.setInte, State.setEiShadow]
  | false => rw [if_neg Bool.false_ne_true, Bool.or_false, State.setInte]

/-- Settles O46: EI by its delay, the other three by definition. -/
theorem machineControlResult : Obligations.MachineControlResult :=
  fun s => ⟨exec_ei s, rfl, rfl, rfl⟩

/-! ## With INTE clear an offer is lost -/

/-- `s'` is `s` except for the scheduler's counters CYC, MIDFIRED and FRAME. -/
def SameButCounters (s s' : State) : Prop :=
  s' = { s with cyc := s'.cyc, midFired := s'.midFired, frame := s'.frame }

theorem SameButCounters.trans {s s1 s2 : State} (h : SameButCounters s s1)
    (h' : SameButCounters s1 s2) : SameButCounters s s2 := by
  rw [SameButCounters, h', h]

/-- With HALT set, INTE clear and no fault nothing can wake the machine or stop it (R290, R380). -/
def State.hung (s : State) : Prop := s.fault = none ∧ s.halt = true ∧ s.inte = false

theorem SameButCounters.hung {s s' : State} (h : SameButCounters s s') (hs : s.hung) : s'.hung := by
  rw [h]
  exact hs

section InteClear

variable {s : State}

theorem interrupt_of_inte_clear {n : Nat} (hn : n < 8) (hinte : s.inte = false) :
    interrupt n s = .next (s, 0) := by
  rw [interrupt, if_neg (Nat.not_le.mpr hn), if_pos hinte, ite_self]

/-- The mid-frame offer then sets MIDFIRED at most (R325, R342). -/
theorem midFrameOffer_of_inte_clear (hinte : s.inte = false) (k : State → Out) :
    ∃ s', midFrameOffer s k = k s' ∧ SameButCounters s s' := by
  unfold midFrameOffer
  split
  · have hlost : interrupt 1 (s.setMidFired true) = .next (s.setMidFired true, 0) :=
      interrupt_of_inte_clear (by decide) hinte
    refine ⟨s.setMidFired true, ?_, rfl⟩
    rw [hlost]
    rfl
  · exact ⟨s, rfl, rfl⟩

/-- The end of the frame then starts the next frame at most (R325, R342). -/
theorem endOfFrame_of_inte_clear (hinte : s.inte = false) :
    ∃ s', endOfFrame s = .next s' ∧ SameButCounters s s' := by
  unfold endOfFrame
  split
  · refine ⟨startFrame s, ?_, rfl⟩
    rw [interrupt_of_inte_clear (by decide) hinte]
    rfl
  · exact ⟨s, rfl, rfl⟩

/-- Where the engine's step leaves INTE clear, the boundary after it changes the counters alone. -/
theorem boundary_of_inte_clear (hinte : s.inte = false) (cycles : Nat) :
    ∃ s', boundary (.next (s, cycles)) = .next s' ∧ SameButCounters s s' := by
  obtain ⟨s1, hmid, h1⟩ := midFrameOffer_of_inte_clear (s := s.setCyc (s.cyc + cycles)) hinte endOfFrame
  have hinte1 : s1.inte = false := by
    rw [h1]
    exact hinte
  obtain ⟨s2, hend, h2⟩ := endOfFrame_of_inte_clear hinte1
  have hcharge : SameButCounters s (s.setCyc (s.cyc + cycles)) := rfl
  exact ⟨s2, hmid.trans hend, (hcharge.trans h1).trans h2⟩

/-! ## A hung machine stays hung -/

/-- R292: a halted machine fetches nothing and lets the idle cost pass. -/
theorem engineStep_of_halt (hfault : s.fault = none) (hhalt : s.halt = true) :
    engineStep s = .next (s, s.cfg.haltIdleCycles) := by
  simp only [engineStep, hfault, hhalt, if_true]

theorem step_of_hung (hs : s.hung) : ∃ s', step s = .next s' ∧ SameButCounters s s' := by
  obtain ⟨hfault, hhalt, hinte⟩ := hs
  simp only [step, frameStep, hfault, engineStep_of_halt hfault hhalt]
  split
  · exact boundary_of_inte_clear hinte s.cfg.haltIdleCycles
  · exact endOfFrame_of_inte_clear hinte

/-- A run whose first step completes goes on from the state it leaves. -/
theorem run_succ_of_step {s1 : State} (h : step s = .next s1) (n : Nat) :
    Host.Core.run Sys2Proof.core (n + 1) s = Host.Core.run Sys2Proof.core n s1 := by
  have hcore : Sys2Proof.core.step s = .next s1 := h
  simp only [Host.Core.run, hcore]

theorem run_of_hung (n : Nat) (hs : s.hung) :
    ∃ s', Host.Core.run Sys2Proof.core n s = .next s' ∧ SameButCounters s s' := by
  induction n generalizing s with
  | zero => exact ⟨s, rfl, rfl⟩
  | succ n ih =>
    obtain ⟨s1, hstep, h1⟩ := step_of_hung hs
    obtain ⟨s2, hrun, h2⟩ := ih (h1.hung hs)
    exact ⟨s2, (run_succ_of_step hstep n).trans hrun, h1.trans h2⟩

end InteClear

/-- Settles O52: a step keeps the machine hung, so any number of steps changes the counters alone. -/
theorem haltedForEver : Obligations.HaltedForEver := by
  intro s n hfault hhalt hinte
  exact ⟨engineStep_of_halt hfault hhalt, run_of_hung n ⟨hfault, hhalt, hinte⟩⟩

end Sys2Proof.Machine
end

section
/-! Interrupts (spec 60_exceptions.md R321 to R326): what an offer does, what an acceptance saves and where it
goes, and the delivery of an interrupt held over from the EI shadow. -/

namespace Sys2Proof.Machine

open Sys2Proof.Claims

/-! ## An offer, test by test -/

section Offer

variable {n : Nat} {s : State}

theorem interrupt_of_ge (hn : 8 ≤ n) : interrupt n s = raise s (.badInterruptNumber n) :=
  if_pos hn

theorem interrupt_of_fault (hn : n < 8) (hfault : s.fault ≠ none) : interrupt n s = .next (s, 0) := by
  rw [interrupt, if_neg (Nat.not_le.mpr hn), if_pos hfault]

/-- Past the first three tests the EI shadow decides between a hold and an acceptance. -/
theorem interrupt_of_inte_set (hn : n < 8) (hfault : s.fault = none) (hinte : s.inte = true) :
    interrupt n s = if s.eiShadow = true then
      .next (if s.pending = none then s.setPending (some (BitVec.ofNat 3 n)) else s, 0)
    else accept (BitVec.ofNat 3 n) s := by
  rw [interrupt, if_neg (Nat.not_le.mpr hn), if_neg (not_not_intro hfault), hinte,
    if_neg Bool.false_ne_true.symm]

theorem interrupt_holds (hn : n < 8) (hfault : s.fault = none) (hinte : s.inte = true)
    (hshadow : s.eiShadow = true) (hpending : s.pending = none) :
    interrupt n s = .next (s.setPending (some (BitVec.ofNat 3 n)), 0) := by
  rw [interrupt_of_inte_set hn hfault hinte, if_pos hshadow, if_pos hpending]

theorem interrupt_while_held (hn : n < 8) (hfault : s.fault = none) (hinte : s.inte = true)
    (hshadow : s.eiShadow = true) (hpending : s.pending ≠ none) : interrupt n s = .next (s, 0) := by
  rw [interrupt_of_inte_set hn hfault hinte, if_pos hshadow, if_neg hpending]

/-- Under EISHADOW only PENDING may change, and only from none (R323). -/
theorem interrupt_in_shadow (hn : n < 8) (hfault : s.fault = none) (hinte : s.inte = true)
    (hshadow : s.eiShadow = true) : interrupt n s = .next ({ s with
      pending := if s.pending = none then some (BitVec.ofNat 3 n) else s.pending }, 0) := by
  by_cases hpending : s.pending = none
  · rw [if_pos hpending, interrupt_holds hn hfault hinte hshadow hpending]
    rfl
  · rw [if_neg hpending, interrupt_while_held hn hfault hinte hshadow hpending]

theorem interrupt_accepts (hn : n < 8) (hfault : s.fault = none) (hinte : s.inte = true)
    (hshadow : s.eiShadow = false) : interrupt n s = accept (BitVec.ofNat 3 n) s := by
  rw [interrupt_of_inte_set hn hfault hinte, hshadow, if_neg Bool.false_ne_true]

end Offer

/-- Settles O53: one test of R321 after the other. -/
theorem interruptOffer : Obligations.InterruptOffer := fun _ _ =>
  ⟨interrupt_of_ge, interrupt_of_fault, interrupt_of_inte_clear, interrupt_in_shadow, interrupt_accepts⟩

/-! ## What a write and a push change, from any state with the same stack -/

section Stack

variable {s s' : State} {addr w : Word} {v : Byte}

/-- A write changes the store alone, and in the same way from every state with the same parameters and
store. -/
theorem writeLeaves_store (h : writeLeaves s addr v s') : ∃ m, s' = s.setStore m ∧
    ∀ t : State, t.cfg = s.cfg → t.store = s.store → writeLeaves t addr v (t.setStore m) := by
  obtain ⟨off, hram, rfl⟩ | ⟨hrom, hpolicy, rfl⟩ := h
  · refine ⟨_, rfl, fun t hcfg hstore => .inl ⟨off, ?_, ?_⟩⟩
    · rwa [ramAt, hcfg]
    · rw [hstore, State.setStore]
  · refine ⟨_, rfl, fun t hcfg hstore => .inr ⟨?_, ?_, ?_⟩⟩
    · rwa [hcfg]
    · rwa [hcfg]
    · rw [← hstore, State.setStore]

/-- A push changes the store and SP alone, and in the same way from every state with the same parameters,
store and SP. -/
theorem pushLeaves_store (h : pushLeaves s w s') : ∃ m, s' = (s.setStore m).setSp (s.sp - 2) ∧
    ∀ t : State, t.cfg = s.cfg → t.store = s.store → t.sp = s.sp →
      pushLeaves t w ((t.setStore m).setSp (s.sp - 2)) := by
  obtain ⟨s1, s2, h1, h2, rfl⟩ := h
  obtain ⟨m1, rfl, hfirst⟩ := writeLeaves_store h1
  obtain ⟨m2, rfl, hsecond⟩ := writeLeaves_store h2
  refine ⟨m2, rfl, fun t hcfg hstore hsp => ⟨t.setStore m1, t.setStore m2, ?_, ?_, ?_⟩⟩
  · rw [hsp]
    exact hfirst t hcfg hstore
  · rw [hsp]
    exact hsecond (t.setStore m1) hcfg rfl
  · rw [hsp]
    rfl

theorem pushLeaves_cfg_frame (h : pushLeaves s w s') : s'.cfg = s.cfg ∧ s'.frame = s.frame := by
  obtain ⟨m, rfl, -⟩ := pushLeaves_store h
  exact ⟨rfl, rfl⟩

theorem pushLeaves_setCyc (h : pushLeaves s w s') (n : Nat) :
    pushLeaves (s.setCyc n) w (s'.setCyc n) := by
  obtain ⟨m, rfl, hpush⟩ := pushLeaves_store h
  exact hpush (s.setCyc n) rfl rfl rfl

theorem pushLeaves_setMidFired (h : pushLeaves s w s') (fired : Bool) :
    pushLeaves (s.setMidFired fired) w (s'.setMidFired fired) := by
  obtain ⟨m, rfl, hpush⟩ := pushLeaves_store h
  exact hpush (s.setMidFired fired) rfl rfl rfl

end Stack

/-! ## Acceptance -/

section Acceptance

variable {n : BitVec 3} {s s1 : State} {r : FaultRecord}

/-- `s1` with an interrupt taken into `pc`: HALT and INTE cleared (R324). -/
def State.entered (s1 : State) (pc : Word) : State :=
  { s1 with halt := false, inte := false, pc := pc }

theorem accept_leaves (h : pushLeaves s s.pc s1) :
    accept n s = .next (s1.entered (restartTarget n), 11) := by
  obtain ⟨m, rfl, hpush⟩ := pushLeaves_store h
  exact push16_leaves (hpush ((s.setHalt false).setInte false) rfl rfl rfl)

theorem accept_stops_first (h : writeFault s (s.sp - 1) r) : accept n s =
    .fault (r.toFault { s with halt := false, inte := false, fault := some r }) :=
  push16_stops_first (s := (s.setHalt false).setInte false) h

theorem accept_stops_second (h1 : writeLeaves s (s.sp - 1) (highByte s.pc) s1)
    (h2 : writeFault s (s.sp - 2) r) : accept n s =
    .fault (r.toFault { s1 with halt := false, inte := false, fault := some r }) := by
  obtain ⟨m, rfl, hwrite⟩ := writeLeaves_store h1
  exact push16_stops_second (hwrite ((s.setHalt false).setInte false) rfl rfl) h2

end Acceptance

/-- Settles O54: an acceptance is a push from the state with HALT and INTE already cleared. -/
theorem interruptAcceptance : Obligations.InterruptAcceptance := fun _ _ =>
  ⟨fun _ h => accept_leaves h, fun _ h => accept_stops_first h,
    fun _ _ h1 h2 => accept_stops_second h1 h2⟩

/-! ## Delivery after the EI shadow -/

section Shadow

variable {s s2 : State} {i : Instr} {n : BitVec 3} {cycles : Nat}

theorem beginOperation_of_shadow (h : s.eiShadow = true) : beginOperation i s =
    { s with pc := s.pc + BitVec.ofNat 16 i.size, eiShadow := false, pending := none } := by
  rw [beginOperation, if_pos h]
  rfl

theorem heldInterrupt_of_shadow (h : s.eiShadow = true) : heldInterrupt s = s.pending := if_pos h

theorem runInstr_of_exec (h : exec i (beginOperation i s) = .next s2) : runInstr i s =
    endOperation (heldInterrupt s) (instrCycles i (beginOperation i s)) s2 := by
  simp only [runInstr, h]

theorem endOperation_drops (h : s.inte = false) :
    endOperation (some n) cycles s = .next (s, cycles) := by
  simp only [endOperation, h, Bool.false_eq_true, if_false]

theorem endOperation_delivers {extra : Nat} (h : s.inte = true)
    (haccept : accept n s = .next (s2, extra)) :
    endOperation (some n) cycles s = .next (s2, cycles + extra) := by
  simp only [endOperation, h, if_true, haccept]

end Shadow

/-- Settles O55: the step is the operation, then the bookkeeping with the held interrupt. -/
theorem shadowDelivery : Obligations.ShadowDelivery := by
  intro s s2 i n hfault hhalt hshadow hpending hfetch s1 hexec
  have hbegin : beginOperation i s = s1 := beginOperation_of_shadow hshadow
  have hstep : engineStep s = endOperation (some n) (instrCycles i s1) s2 := by
    rw [engineStep_of_fetch hfault hhalt hfetch, runInstr_of_exec (hbegin ▸ hexec),
      heldInterrupt_of_shadow hshadow, hpending, hbegin]
  rw [hstep]
  exact ⟨endOperation_drops, fun hinte s3 hpush => endOperation_delivers hinte (accept_leaves hpush)⟩

end Sys2Proof.Machine
end

section
/-! The boundary after a step (spec 60_exceptions.md R327, R341 to R347): where both offers are lost, where an
interrupt is taken, and that vector 1 has been offered by the end of a frame. -/

namespace Sys2Proof.Machine

open Sys2Proof.Claims

/-! ## Both offers by their outcome -/

section Offers

variable {s s1 : State} {n : Nat} {k : State → Out}

theorem boundary_next (s : State) (n : Nat) :
    boundary (.next (s, n)) = midFrameOffer (s.setCyc (s.cyc + n)) endOfFrame :=
  rfl

/-- A mid-frame offer that is due and answers. -/
theorem midFrameOffer_of_due (hfired : s.midFired = false) (hline : s.cfg.midScanline ≤ scanline s)
    (h : interrupt 1 (s.setMidFired true) = .next (s1, n)) :
    midFrameOffer s k = k (s1.setCyc (s1.cyc + n)) := by
  rw [midFrameOffer, if_pos ⟨hfired, hline⟩, h]
  rfl

/-- The end of a frame whose offer answers. -/
theorem endOfFrame_of_ge (hge : frameCycles s.cfg ≤ s.cyc) (h : interrupt 2 s = .next (s1, n)) :
    endOfFrame s = .next (startFrame (s1.setCyc (s1.cyc + n))) := by
  rw [endOfFrame, if_pos hge, h]
  rfl

/-! ## Interrupts off -/

theorem midFrameOffer_lost (hinte : s.inte = false) : midFrameOffer s k = k (s.setMidFired
    (s.midFired || decide (s.cfg.midScanline ≤ scanline s))) := by
  by_cases hdue : s.midFired = false ∧ s.cfg.midScanline ≤ scanline s
  · obtain ⟨hfired, hline⟩ := hdue
    rw [midFrameOffer_of_due hfired hline (interrupt_of_inte_clear (by decide) hinte), hfired,
      Bool.false_or, decide_eq_true hline]
    rfl
  · have hkeep : (s.midFired || decide (s.cfg.midScanline ≤ scanline s)) = s.midFired := by
      cases hfired : s.midFired with
      | true => rfl
      | false => exact decide_eq_false fun hline => hdue ⟨hfired, hline⟩
    rw [hkeep, midFrameOffer, if_neg hdue]
    rfl

/-- A new frame keeps everything but the three counters (R345). -/
theorem startFrame_setCyc (s : State) (cyc : Nat) : startFrame (s.setCyc cyc) =
    { s with cyc := cyc - frameCycles s.cfg, midFired := false, frame := s.frame + 1 } := by
  simp only [startFrame, State.setCyc, State.setMidFired, State.setFrame]

theorem startFrame_setMidFired (s : State) (fired : Bool) :
    startFrame (s.setMidFired fired) = startFrame s := by
  simp only [startFrame, State.setCyc, State.setMidFired, State.setFrame]

theorem endOfFrame_lost (hinte : s.inte = false) (hge : frameCycles s.cfg ≤ s.cyc) :
    endOfFrame s = .next (startFrame s) :=
  endOfFrame_of_ge hge (interrupt_of_inte_clear (by decide) hinte)

end Offers

/-- Settles O56: either offer is lost, and what is left of it is the counters. -/
theorem boundaryWithInterruptsOff : Obligations.BoundaryWithInterruptsOff := by
  intro s n _ hinte cyc
  rw [boundary_next, midFrameOffer_lost (s := s.setCyc cyc) hinte]
  by_cases hge : frameCycles s.cfg ≤ cyc
  · rw [if_pos hge, endOfFrame_lost (s := (s.setCyc cyc).setMidFired _) hinte hge,
      startFrame_setMidFired, startFrame_setCyc]
  · rw [if_neg hge, endOfFrame_of_lt (s := (s.setCyc cyc).setMidFired _) (Nat.lt_of_not_le hge)]
    rfl

/-! ## Interrupts on -/

section Taken

variable {s s1 : State} {k : State → Out} {cyc : Nat}
  (hfault : s.fault = none) (hinte : s.inte = true) (hshadow : s.eiShadow = false)
  (hpush : pushLeaves s s.pc s1)

include hfault hinte hshadow hpush

/-- The mid-frame offer takes vector 1 at 0x0008, and charges its cycles. -/
theorem midFrameOffer_taken (hfired : s.midFired = false)
    (hline : s.cfg.midScanline ≤ cyc / scanlineCycles s.cfg) :
    midFrameOffer (s.setCyc cyc) k = k (((s1.entered 8).setMidFired true).setCyc (cyc + 11)) := by
  refine midFrameOffer_of_due (s1 := ((s1.entered 8).setCyc cyc).setMidFired true) hfired hline ?_
  rw [interrupt_accepts (s := (s.setCyc cyc).setMidFired true) (by decide) hfault hinte hshadow]
  exact accept_leaves (pushLeaves_setMidFired (pushLeaves_setCyc hpush cyc) true)

/-- The end of the frame takes vector 2 at 0x0010, and charges its cycles. -/
theorem endOfFrame_taken (hge : frameCycles s.cfg ≤ cyc) :
    endOfFrame (s.setCyc cyc) = .next (startFrame ((s1.entered 0x10).setCyc (cyc + 11))) := by
  refine endOfFrame_of_ge (s1 := (s1.entered 0x10).setCyc cyc) hge ?_
  rw [interrupt_accepts (s := s.setCyc cyc) (by decide) hfault hinte hshadow]
  exact accept_leaves (pushLeaves_setCyc hpush cyc)

end Taken

section Held

variable {s : State} {k : State → Out} {cyc : Nat}
  (hfault : s.fault = none) (hinte : s.inte = true) (hshadow : s.eiShadow = true)

include hfault hinte hshadow

/-- The mid-frame offer in the EI shadow holds vector 1, and costs nothing. -/
theorem midFrameOffer_held (hpending : s.pending = none) (hfired : s.midFired = false)
    (hline : s.cfg.midScanline ≤ cyc / scanlineCycles s.cfg) : midFrameOffer (s.setCyc cyc) k =
      k (((s.setMidFired true).setPending (some 1)).setCyc cyc) :=
  midFrameOffer_of_due (s := s.setCyc cyc) hfired hline
    (interrupt_holds (n := 1) (by decide) hfault hinte hshadow hpending)

/-- The end of the frame loses vector 2 where an interrupt is held (R327). -/
theorem endOfFrame_while_held (hpending : s.pending ≠ none) (hge : frameCycles s.cfg ≤ cyc) :
    endOfFrame (s.setCyc cyc) = .next (startFrame (s.setCyc cyc)) :=
  endOfFrame_of_ge hge
    (interrupt_while_held (s := s.setCyc cyc) (by decide) hfault hinte hshadow hpending)

end Held

/-- Settles O57: an acceptance clears INTE, and a hold fills PENDING, so the second offer is lost. -/
theorem boundaryTakesInterrupt : Obligations.BoundaryTakesInterrupt := by
  intro s n hfault hinte cyc midReached
  refine ⟨?outside, ?shadow⟩
  case outside =>
    intro s1 hshadow hpush taken
    obtain ⟨hcfg, hframe⟩ := pushLeaves_cfg_frame hpush
    refine ⟨?midFrame, ?frameEnd, ?both⟩
    case midFrame =>
      rintro ⟨hfired, hline⟩ hlt
      rw [boundary_next, midFrameOffer_taken hfault hinte hshadow hpush hfired hline]
      exact endOfFrame_of_lt (s := State.setCyc _ (cyc + 11)) (hcfg ▸ hlt)
    case frameEnd =>
      intro hfired hge
      rw [boundary_next, midFrameOffer_of_not_due (s := s.setCyc cyc) (.inl hfired),
        endOfFrame_taken hfault hinte hshadow hpush hge, startFrame_setCyc, ← hcfg, ← hframe]
      rfl
    case both =>
      rintro ⟨hfired, hline⟩ hge
      rw [boundary_next, midFrameOffer_taken hfault hinte hshadow hpush hfired hline,
        endOfFrame_lost (s := State.setCyc _ (cyc + 11)) rfl (hcfg ▸ hge), startFrame_setCyc,
        ← hcfg, ← hframe]
      rfl
  case shadow =>
    rintro hshadow hpending ⟨hfired, hline⟩ hge
    rw [boundary_next, midFrameOffer_held hfault hinte hshadow hpending hfired hline,
      endOfFrame_while_held (s := (s.setMidFired true).setPending (some 1)) hfault hinte hshadow
        (Option.some_ne_none 1) hge, startFrame_setCyc]
    rfl

/-! ## By the end of a frame vector 1 has been offered -/

/-- R347: `CPS * DISPLAY_HEIGHT` is at most `CPF`, so with the budget used up the scanline is past the
display. -/
theorem displayHeight_le_scanline {s : State} (hheight : 0 < s.cfg.displayHeight)
    (hcps : s.cfg.displayHeight ≤ frameCycles s.cfg) (hge : frameCycles s.cfg ≤ s.cyc) :
    s.cfg.displayHeight ≤ scanline s := by
  have hpos : 0 < scanlineCycles s.cfg := Nat.div_pos hcps hheight
  rw [scanline, Nat.le_div_iff_mul_le hpos]
  exact (Nat.mul_div_le _ _).trans hge

/-- Settles O58: the mid-frame scanline is inside the display, and the scanline is past it. -/
theorem midFrameOfferedByFrameEnd : Obligations.MidFrameOfferedByFrameEnd := by
  intro s k hparams hge
  simp only [Config.schedulerWellFormed, Bool.and_eq_true, decide_eq_true_eq] at hparams
  obtain ⟨⟨-, hmid⟩, hcps⟩ := hparams
  have hline : s.cfg.midScanline ≤ scanline s :=
    hmid.le.trans (displayHeight_le_scanline (Nat.zero_lt_of_lt hmid) hcps hge)
  cases hfired : s.midFired with
  | true => exact midFrameOffer_of_not_due (.inl hfired)
  | false => exact if_pos ⟨hfired, hline⟩

end Sys2Proof.Machine
end

section
/-! RunFrame is steps of the machine (spec 60_exceptions.md R342, R345, 70_reset_and_hazards.md R382). -/

namespace Sys2Proof.Machine

/-! ## What a step of the engine and an offer leave to the scheduler -/

/-- `s'` has the parameters, RUNNING, CYC and FRAME of `s`. -/
def SameClock (s s' : State) : Prop :=
  s'.cfg = s.cfg ∧ s'.running = s.running ∧ s'.cyc = s.cyc ∧ s'.frame = s.frame

theorem SameClock.refl (s : State) : SameClock s s := ⟨rfl, rfl, rfl, rfl⟩

theorem SameClock.trans {s s1 s2 : State} (h : SameClock s s1) (h' : SameClock s1 s2) :
    SameClock s s2 := by
  obtain ⟨hcfg, hrun, hcyc, hframe⟩ := h
  obtain ⟨hcfg', hrun', hcyc', hframe'⟩ := h'
  exact ⟨hcfg'.trans hcfg, hrun'.trans hrun, hcyc'.trans hcyc, hframe'.trans hframe⟩

theorem OpUpdate.sameClock {s s' : State} (h : OpUpdate s s') : SameClock s s' := by
  cases h with
  | reg r v => cases r <;> exact .refl s
  | _ => exact .refl s

section Clock

variable {s s1 : State} {n extra : Nat}

/-- What is answered by the updates of an operation keeps the clock. -/
theorem sameClock_of_via {α : Type} {get : α → State} {o : Host.Outcome α Fault Refusal} {y : α}
    (hvia : Via s get o) (h : o = .next y) : SameClock s (get y) := by
  subst h
  exact Chain.keeps (fun _ _ hu hs => SameClock.trans hs hu.sameClock) hvia (.refl s)

theorem interrupt_sameClock (h : interrupt n s = .next (s1, extra)) : SameClock s s1 := by
  obtain ⟨-, heq | ⟨-, -, heq⟩ | ⟨-, -, haccept⟩⟩ := interrupt_next h
  · cases heq
    exact .refl s
  · cases heq
    exact .refl s
  · exact sameClock_of_via (accept_via _ s) haccept

theorem endOperation_sameClock {held : Option (BitVec 3)} {cycles : Nat}
    (h : endOperation held cycles s = .next (s1, n)) : SameClock s s1 ∧ cycles ≤ n := by
  obtain heq | ⟨k, s2, extra, -, -, haccept, heq⟩ := endOperation_next h
  · cases heq
    exact ⟨.refl s, Nat.le_refl n⟩
  · cases heq
    exact ⟨sameClock_of_via (accept_via k s) haccept, Nat.le_add_right cycles extra⟩

end Clock

/-! ## A machine on which time passes -/

/-- Every instruction and every halted step costs something (R382). -/
def Config.costsPositive (cfg : Config) : Prop :=
  (∀ op taken, 0 < tableCycles cfg.cycleTable op taken) ∧ 0 < cfg.haltIdleCycles

section Passes

variable {s s1 s' : State} {n : Nat}

/-- A completed step of the engine reports at least one cycle, and leaves CYC and FRAME to the scheduler. -/
theorem engineStep_sameClock (hcosts : Config.costsPositive s.cfg)
    (h : engineStep s = .next (s1, n)) : SameClock s s1 ∧ 0 < n := by
  obtain ⟨hTable, hIdle⟩ := hcosts
  obtain ⟨-, ⟨-, heq⟩ | ⟨-, i, -, hrun⟩⟩ := engineStep_next h
  · cases heq
    exact ⟨.refl s, hIdle⟩
  · obtain ⟨s2, hexec, hend⟩ := runInstr_next hrun
    obtain ⟨hclock, hle⟩ := endOperation_sameClock hend
    have hbegin : SameClock s (beginOperation i s) := .refl s
    exact ⟨(hbegin.trans (sameClock_of_via (exec_via i _) hexec)).trans hclock,
      (hTable _ _).trans_le hle⟩

/-- A mid-frame offer that goes on goes on from the same state whatever follows; only cycles are added. -/
theorem midFrameOffer_goes_on {k : State → Out} (h : midFrameOffer s k = .next s') :
    ∃ s1, k s1 = .next s' ∧ (∀ k', midFrameOffer s k' = k' s1) ∧ s1.cfg = s.cfg ∧
      s1.running = s.running ∧ s.cyc ≤ s1.cyc ∧ s1.frame = s.frame := by
  by_cases hdue : s.midFired = false ∧ s.cfg.midScanline ≤ scanline s
  · rw [midFrameOffer, if_pos hdue] at h
    obtain ⟨s1, n, hoffer, hk⟩ := charge_next h
    obtain ⟨hcfg, hrunning, hcyc, hframe⟩ := interrupt_sameClock hoffer
    obtain ⟨hfired, hline⟩ := hdue
    exact ⟨_, hk, fun k' => midFrameOffer_of_due hfired hline hoffer, hcfg, hrunning,
      hcyc.symm.le.trans (Nat.le_add_right _ n), hframe⟩
  · rw [midFrameOffer, if_neg hdue] at h
    exact ⟨s, h, fun k' => if_neg hdue, rfl, rfl, Nat.le_refl _, rfl⟩

/-- The end of a frame with the budget used up counts one frame. -/
theorem endOfFrame_frame (hge : frameCycles s.cfg ≤ s.cyc) (h : endOfFrame s = .next s') :
    s'.frame = s.frame + 1 := by
  obtain ⟨-, s1, n, hoffer, rfl⟩ | ⟨hlt, -⟩ := endOfFrame_next h
  · obtain ⟨-, -, -, hframe⟩ := interrupt_sameClock hoffer
    exact congrArg (· + 1) hframe
  · exact absurd hge (Nat.not_le.mpr hlt)

/-! ## The loop, pass by pass -/

theorem frameLoop_stops (fuel : Nat) (h : ¬ (s.cyc < frameCycles s.cfg ∧ s.running = true)) :
    frameLoop fuel s = .next s := by
  cases fuel with
  | zero => rfl
  | succ fuel => exact if_neg h

theorem step_inside_frame (hfault : s.fault = none)
    (h : s.cyc < frameCycles s.cfg ∧ s.running = true) : step s = boundary (engineStep s) := by
  simp only [step, frameStep, hfault, if_pos h]

theorem step_past_frame (hfault : s.fault = none)
    (h : ¬ (s.cyc < frameCycles s.cfg ∧ s.running = true)) : step s = endOfFrame s := by
  simp only [step, frameStep, hfault, if_neg h]

theorem run_one (h : step s = .next s') : Host.Core.run Sys2Proof.core 1 s = .next s' :=
  run_succ_of_step h 0

/-- Inside the frame a pass of the loop is a step of the machine, but for the end of the frame. -/
theorem frameLoop_pass (hcosts : Config.costsPositive s.cfg) (hrunning : s.running = true)
    (hlt : s.cyc < frameCycles s.cfg) {fuel : Nat} (h : frameLoop (fuel + 1) s = .next s') :
    ∃ s1, frameLoop fuel s1 = .next s' ∧ step s = endOfFrame s1 ∧ s1.cfg = s.cfg ∧
      s1.running = true ∧ s.cyc < s1.cyc ∧ s1.frame = s.frame := by
  rw [frameLoop, if_pos ⟨hlt, hrunning⟩] at h
  obtain ⟨s1, n, hengine, hoffer⟩ := charge_next h
  obtain ⟨hfault, -⟩ := engineStep_next hengine
  obtain ⟨⟨hcfg1, hrunning1, hcyc1, hframe1⟩, hpos⟩ := engineStep_sameClock hcosts hengine
  obtain ⟨s2, hrest, hgo, hcfg2, hrunning2, hcyc2, hframe2⟩ := midFrameOffer_goes_on hoffer
  have hstep : step s = endOfFrame s2 := by
    rw [step_inside_frame hfault ⟨hlt, hrunning⟩, hengine]
    exact hgo endOfFrame
  refine ⟨s2, hrest, hstep, hcfg2.trans hcfg1, (hrunning2.trans hrunning1).trans hrunning, ?_,
    hframe2.trans hframe1⟩
  simp only [State.setCyc_cyc] at hcyc2
  omega

/-- A loop with fuel for the rest of the frame, and the end of the frame after it, is steps of the machine,
the last of which ends the frame. -/
theorem run_of_frameLoop (fuel : Nat) (hcosts : Config.costsPositive s.cfg)
    (hrunning : s.running = true) (hlt : s.cyc < frameCycles s.cfg)
    (hfuel : frameCycles s.cfg ≤ s.cyc + fuel) (hloop : frameLoop fuel s = .next s1)
    (hend : endOfFrame s1 = .next s') :
    ∃ k, Host.Core.run Sys2Proof.core k s = .next s' ∧ s'.frame = s.frame + 1 := by
  induction fuel generalizing s with
  | zero => exact absurd hlt (Nat.not_lt.mpr hfuel)
  | succ fuel ih =>
    obtain ⟨s2, hrest, hstep, hcfg, hrunning2, hcyc, hframe⟩ :=
      frameLoop_pass hcosts hrunning hlt hloop
    rw [← hcfg] at hcosts hfuel
    by_cases hlt2 : s2.cyc < frameCycles s2.cfg
    · obtain ⟨k, hrun, hcount⟩ := ih hcosts hrunning2 hlt2 (by omega) hrest
      rw [endOfFrame_of_lt hlt2] at hstep
      exact ⟨k + 1, (run_succ_of_step hstep k).trans hrun, hframe ▸ hcount⟩
    · obtain rfl : s2 = s1 := by
        simpa using (frameLoop_stops fuel fun hcond => hlt2 hcond.1).symm.trans hrest
      exact ⟨1, run_one (hstep.trans hend), hframe ▸ endOfFrame_frame (Nat.not_lt.mp hlt2) hend⟩

/-- A RunFrame that completes: the loop, and the end of the frame after it. -/
theorem hostRunFrame_next (h : hostRunFrame s = .next s') : s.fault = none ∧
    ∃ s1, frameLoop (frameCycles s.cfg) s = .next s1 ∧ endOfFrame s1 = .next s' := by
  unfold hostRunFrame at h
  split at h
  · exact absurd h (raise_ne_next _ _ _)
  · next hfault =>
    split at h
    · next s1 hloop => exact ⟨hfault, s1, hloop, h⟩
    · cases h
    · cases h

end Passes

/-- Settles O60: inside the frame the loop is steps; with the budget used up RunFrame is the one step that
ends the frame; paused inside the frame it is no step. -/
theorem runFrameIsSteps : Obligations.RunFrameIsSteps := by
  intro s s' hTable hIdle h
  obtain ⟨hfault, s1, hloop, hend⟩ := hostRunFrame_next h
  by_cases hgoes : s.cyc < frameCycles s.cfg ∧ s.running = true
  case pos =>
    obtain ⟨k, hrun, hframe⟩ := run_of_frameLoop _ ⟨hTable, hIdle⟩ hgoes.2 hgoes.1
      (Nat.le_add_left _ _) hloop hend
    exact ⟨⟨k, hrun⟩, .inl hframe⟩
  case neg =>
    obtain rfl : s = s1 := by simpa using (frameLoop_stops _ hgoes).symm.trans hloop
    by_cases hlt : s.cyc < frameCycles s.cfg
    · obtain rfl : s = s' := by simpa using (endOfFrame_of_lt hlt).symm.trans hend
      have hpaused : s.running = false := by simpa [hlt] using hgoes
      exact ⟨⟨0, rfl⟩, .inr ⟨hpaused, hlt, rfl⟩⟩
    · exact ⟨⟨1, run_one ((step_past_frame hfault hgoes).trans hend)⟩,
        .inl (endOfFrame_frame (Nat.not_lt.mp hlt) hend)⟩

end Sys2Proof.Machine
end
